-- ==== Sys2Proof/Word.lean ====
section
/-! DEFINITION. The word types of the machine (spec/10_state.md R10, R18, R22, spec/30_encoding.md R110). -/

namespace Sys2Proof

/-- A 64-bit value: a general register, an address, an opmask register, a tick count. -/
abbrev Word := BitVec 64

/-- One byte of data memory (R80). -/
abbrev Byte := BitVec 8

/-- A 512-bit packed value. A packed value of `L` bits (R20) is held zero-extended to 512 bits. -/
abbrev Packed := BitVec 512

/-- The 144-bit descriptor word `DESC` (R110). -/
abbrev DescWord := BitVec 144

/-- A 256-bit bitmap of interrupt vectors, stored as eight 32-bit words (R30). -/
abbrev Bitmap := Vector (BitVec 32) 8

end Sys2Proof
end

