-- ==== Sys2Proof/Config.lean ====
section
/-! DEFINITION. The implementation parameters of the hardware (spec/00_scope.md R5), and its free values. -/

namespace Sys2Proof

/-- The ten members of `FEATURES` (spec/10_state.md R24). -/
inductive Feature where
  | bitops | popcnt | lzcnt | bmi1 | bmi2 | tbm | sse | avx | avx512 | xop
deriving DecidableEq, Repr

/-- A value of `FEATURES`: which families are enabled (R24). -/
structure Features where
  bitops : Bool
  popcnt : Bool
  lzcnt  : Bool
  bmi1   : Bool
  bmi2   : Bool
  tbm    : Bool
  sse    : Bool
  avx    : Bool
  avx512 : Bool
  xop    : Bool
deriving DecidableEq, Repr

/-- Membership in `FEATURES`. -/
def Features.has (fs : Features) : Feature → Bool
  | .bitops => fs.bitops
  | .popcnt => fs.popcnt
  | .lzcnt  => fs.lzcnt
  | .bmi1   => fs.bmi1
  | .bmi2   => fs.bmi2
  | .tbm    => fs.tbm
  | .sse    => fs.sse
  | .avx    => fs.avx
  | .avx512 => fs.avx512
  | .xop    => fs.xop

/-- R5: "default all enabled". -/
def Features.all : Features :=
  ⟨true, true, true, true, true, true, true, true, true, true⟩

/-- `MERGE_UPPER`: the bits above the vector length under a merge-masked write (R173). -/
inductive MergeUpper where
  | preserve | zero
deriving DecidableEq, Repr

/-- `UNDEF_FLAG_POLICY`: what happens to a flag the ISA leaves undefined (R153). -/
inductive UndefFlagPolicy where
  | unchanged | draw
deriving DecidableEq, Repr

/-- `INVARIANT_POLICY`: what an internal invariant violation does (R447). -/
inductive InvariantPolicy where
  | fault | recover
deriving DecidableEq, Repr

/-- The parameters of R5 that an implementation chooses, constant during a run. `FEATURES` and `APIC_ID0` are per CPU
and stand in `Machine.Cpu`; `LOWPRI_TIEBREAK` and `MALFORMED_POLICY` have one defined value each and are built in. -/
structure Config where
  mergeUpper           : MergeUpper
  undefFlagPolicy      : UndefFlagPolicy
  invariantPolicy      : InvariantPolicy
  /-- `APIC_BASE`, the base of the 4 KiB window (R90). -/
  apicBase             : Word
  /-- `XAPIC`: true for an xAPIC, false for the legacy APIC. -/
  xapic                : Bool
  x2apicSupported      : Bool
  xapicExtSupported    : Bool
  tscDeadlineSupported : Bool
  /-- `APIC_VERSION`, what the VERSION register reads (R44). -/
  apicVersion          : BitVec 32
  /-- `EXT_FEATURE_VALUE`, what the extended feature register reads (R64). -/
  extFeatureValue      : BitVec 32
  /-- `RESET_RDX` (R71). -/
  resetRdx             : Word
deriving DecidableEq, Repr

/-- The values R5 gives for this hardware (for `invariantPolicy` see log 5). `resetRdx` is OPEN in R5: DESIGN CHOICE, unsafe,
log 4. -/
def Config.default : Config where
  mergeUpper           := .preserve
  undefFlagPolicy      := .unchanged
  invariantPolicy      := .fault
  apicBase             := 0xFEE00000#64
  xapic                := true
  x2apicSupported      := true
  xapicExtSupported    := true
  tscDeadlineSupported := true
  apicVersion          := 0x00050014#32
  extFeatureValue      := 0x00000003#32
  resetRdx             := 0#64

/-- The free values of R153 under `UNDEF_FLAG_POLICY = draw`: the `n`-th flag value drawn. It has no body, so nothing
can be proved about a value of it (DESIGN CHOICE of form, safe, log 6). -/
opaque Config.freeFlag : Nat → Bool

end Sys2Proof
end

