-- ==== Sys2Proof/Syntax.lean ====
section
/-! DEFINITION. Instructions: the descriptor's operand fields (spec/30_encoding.md R110) and one constructor per entry of
the handler ROM (R118, spec/opcode_table.json). -/

namespace Sys2Proof

/-- The fields of a descriptor other than `handler` (R110). Which register file `dst`, `src1`, `src2` and `src3` index is
fixed by the handler. -/
structure Desc where
  dst     : BitVec 5
  src1    : BitVec 5
  src2    : BitVec 5
  src3    : BitVec 5
  vl      : BitVec 2
  opmask  : BitVec 3
  zmask   : Bool
  memform : Bool
  ilen    : BitVec 4
  rsvd    : BitVec 7
  imm     : BitVec 32
  addr    : BitVec 64
deriving DecidableEq, Repr

/-- The clause of R120 that a malformed descriptor breaks. -/
inductive Malformed where
  | reserved | ilen | vl | memform | mask | imm | dst | src1 | src2 | src3
deriving DecidableEq, Repr

/-- An instruction: an entry of the handler ROM and the descriptor it is dispatched with. -/
inductive Instr where
  -- Reserved (R119).
  | illegal (d : Desc)
  -- bit16/bit32/bit64 family (41_bitops.md).
  | bt16G (d : Desc)
  | bt16I (d : Desc)
  | bt32G (d : Desc)
  | bt32I (d : Desc)
  | bt64G (d : Desc)
  | bt64I (d : Desc)
  | bts16G (d : Desc)
  | bts16I (d : Desc)
  | bts32G (d : Desc)
  | bts32I (d : Desc)
  | bts64G (d : Desc)
  | bts64I (d : Desc)
  | btr16G (d : Desc)
  | btr16I (d : Desc)
  | btr32G (d : Desc)
  | btr32I (d : Desc)
  | btr64G (d : Desc)
  | btr64I (d : Desc)
  | btc16G (d : Desc)
  | btc16I (d : Desc)
  | btc32G (d : Desc)
  | btc32I (d : Desc)
  | btc64G (d : Desc)
  | btc64I (d : Desc)
  | bsf16 (d : Desc)
  | bsf32 (d : Desc)
  | bsf64 (d : Desc)
  | bsr16 (d : Desc)
  | bsr32 (d : Desc)
  | bsr64 (d : Desc)
  | popcnt16 (d : Desc)
  | popcnt32 (d : Desc)
  | popcnt64 (d : Desc)
  | tzcnt16 (d : Desc)
  | tzcnt32 (d : Desc)
  | tzcnt64 (d : Desc)
  | lzcnt16 (d : Desc)
  | lzcnt32 (d : Desc)
  | lzcnt64 (d : Desc)
  -- BMI family (42_bmi.md).
  | andn32 (d : Desc)
  | andn64 (d : Desc)
  | bextr32 (d : Desc)
  | bextr64 (d : Desc)
  | blsi32 (d : Desc)
  | blsi64 (d : Desc)
  | blsmsk32 (d : Desc)
  | blsmsk64 (d : Desc)
  | blsr32 (d : Desc)
  | blsr64 (d : Desc)
  | bzhi32 (d : Desc)
  | bzhi64 (d : Desc)
  | mulx32 (d : Desc)
  | mulx64 (d : Desc)
  | pdep32 (d : Desc)
  | pdep64 (d : Desc)
  | pext32 (d : Desc)
  | pext64 (d : Desc)
  | rorx32 (d : Desc)
  | rorx64 (d : Desc)
  | sarx32 (d : Desc)
  | sarx64 (d : Desc)
  | shlx32 (d : Desc)
  | shlx64 (d : Desc)
  | shrx32 (d : Desc)
  | shrx64 (d : Desc)
  -- TBM family (43_tbm.md).
  | bextri32 (d : Desc)
  | bextri64 (d : Desc)
  | blcfill32 (d : Desc)
  | blcfill64 (d : Desc)
  | blci32 (d : Desc)
  | blci64 (d : Desc)
  | blcic32 (d : Desc)
  | blcic64 (d : Desc)
  | blcmsk32 (d : Desc)
  | blcmsk64 (d : Desc)
  | blcs32 (d : Desc)
  | blcs64 (d : Desc)
  | blsfill32 (d : Desc)
  | blsfill64 (d : Desc)
  | blsic32 (d : Desc)
  | blsic64 (d : Desc)
  | t1mskc32 (d : Desc)
  | t1mskc64 (d : Desc)
  | tzmsk32 (d : Desc)
  | tzmsk64 (d : Desc)
  -- Class S: legacy SSE packed integer (44_simd_int.md).
  | paddb (d : Desc)
  | paddw (d : Desc)
  | paddd (d : Desc)
  | paddq (d : Desc)
  | psubb (d : Desc)
  | psubw (d : Desc)
  | psubd (d : Desc)
  | psubq (d : Desc)
  | pand (d : Desc)
  | pandn (d : Desc)
  | por (d : Desc)
  | pxor (d : Desc)
  | pcmpeqb (d : Desc)
  | pcmpeqw (d : Desc)
  | pcmpeqd (d : Desc)
  | pcmpeqq (d : Desc)
  | pcmpgtb (d : Desc)
  | pcmpgtw (d : Desc)
  | pcmpgtd (d : Desc)
  | pcmpgtq (d : Desc)
  | pminsb (d : Desc)
  | pminsw (d : Desc)
  | pminsd (d : Desc)
  | pminub (d : Desc)
  | pminuw (d : Desc)
  | pminud (d : Desc)
  | pmaxsb (d : Desc)
  | pmaxsw (d : Desc)
  | pmaxsd (d : Desc)
  | pmaxub (d : Desc)
  | pmaxuw (d : Desc)
  | pmaxud (d : Desc)
  | psllwI (d : Desc)
  | pslldI (d : Desc)
  | psllqI (d : Desc)
  | psrlwI (d : Desc)
  | psrldI (d : Desc)
  | psrlqI (d : Desc)
  | psrawI (d : Desc)
  | psradI (d : Desc)
  | pshufd (d : Desc)
  | pshufb (d : Desc)
  | movdquLd (d : Desc)
  | movdquSt (d : Desc)
  -- Class V: AVX, AVX2, EVEX packed integer (44_simd_int.md).
  | vpaddb (d : Desc)
  | vpaddw (d : Desc)
  | vpaddd (d : Desc)
  | vpaddq (d : Desc)
  | vpsubb (d : Desc)
  | vpsubw (d : Desc)
  | vpsubd (d : Desc)
  | vpsubq (d : Desc)
  | vpandd (d : Desc)
  | vpandq (d : Desc)
  | vpandnd (d : Desc)
  | vpandnq (d : Desc)
  | vpord (d : Desc)
  | vporq (d : Desc)
  | vpxord (d : Desc)
  | vpxorq (d : Desc)
  | vpcmpeqb (d : Desc)
  | vpcmpeqw (d : Desc)
  | vpcmpeqd (d : Desc)
  | vpcmpeqq (d : Desc)
  | vpcmpgtb (d : Desc)
  | vpcmpgtw (d : Desc)
  | vpcmpgtd (d : Desc)
  | vpcmpgtq (d : Desc)
  | vpminsb (d : Desc)
  | vpminsw (d : Desc)
  | vpminsd (d : Desc)
  | vpminsq (d : Desc)
  | vpminub (d : Desc)
  | vpminuw (d : Desc)
  | vpminud (d : Desc)
  | vpminuq (d : Desc)
  | vpmaxsb (d : Desc)
  | vpmaxsw (d : Desc)
  | vpmaxsd (d : Desc)
  | vpmaxsq (d : Desc)
  | vpmaxub (d : Desc)
  | vpmaxuw (d : Desc)
  | vpmaxud (d : Desc)
  | vpmaxuq (d : Desc)
  | vpsllwI (d : Desc)
  | vpslldI (d : Desc)
  | vpsllqI (d : Desc)
  | vpsrlwI (d : Desc)
  | vpsrldI (d : Desc)
  | vpsrlqI (d : Desc)
  | vpsrawI (d : Desc)
  | vpsradI (d : Desc)
  | vpsraqI (d : Desc)
  | vpsllvw (d : Desc)
  | vpsllvd (d : Desc)
  | vpsllvq (d : Desc)
  | vpsrlvw (d : Desc)
  | vpsrlvd (d : Desc)
  | vpsrlvq (d : Desc)
  | vpsravw (d : Desc)
  | vpsravd (d : Desc)
  | vpsravq (d : Desc)
  | vpshufd (d : Desc)
  | vpshufb (d : Desc)
  | vmovdqu8Ld (d : Desc)
  | vmovdqu16Ld (d : Desc)
  | vmovdqu32Ld (d : Desc)
  | vmovdqu64Ld (d : Desc)
  | vmovdqu8St (d : Desc)
  | vmovdqu16St (d : Desc)
  | vmovdqu32St (d : Desc)
  | vmovdqu64St (d : Desc)
  -- AVX-512 specific (45_avx512.md).
  | vpcmpb (d : Desc)
  | vpcmpw (d : Desc)
  | vpcmpd (d : Desc)
  | vpcmpq (d : Desc)
  | vpcmpub (d : Desc)
  | vpcmpuw (d : Desc)
  | vpcmpud (d : Desc)
  | vpcmpuq (d : Desc)
  | vpcompressb (d : Desc)
  | vpcompressw (d : Desc)
  | vpcompressd (d : Desc)
  | vpcompressq (d : Desc)
  | vpexpandb (d : Desc)
  | vpexpandw (d : Desc)
  | vpexpandd (d : Desc)
  | vpexpandq (d : Desc)
  | vpermb (d : Desc)
  | vpermw (d : Desc)
  | vpermd (d : Desc)
  | vpermq (d : Desc)
  | valignd (d : Desc)
  | valignq (d : Desc)
  | kmovbKg (d : Desc)
  | kmovwKg (d : Desc)
  | kmovdKg (d : Desc)
  | kmovqKg (d : Desc)
  | kmovbGk (d : Desc)
  | kmovwGk (d : Desc)
  | kmovdGk (d : Desc)
  | kmovqGk (d : Desc)
  -- Class X: XOP (46_xop.md).
  | vpcomb (d : Desc)
  | vpcomw (d : Desc)
  | vpcomd (d : Desc)
  | vpcomq (d : Desc)
  | vpcomub (d : Desc)
  | vpcomuw (d : Desc)
  | vpcomud (d : Desc)
  | vpcomuq (d : Desc)
  | vpperm (d : Desc)
  | vpcmov (d : Desc)
  | vpmacssww (d : Desc)
  | vpmacsww (d : Desc)
  | vpmacsswd (d : Desc)
  | vpmacswd (d : Desc)
  | vpmacssdd (d : Desc)
  | vpmacsdd (d : Desc)
  | vpmacssdql (d : Desc)
  | vpmacsdql (d : Desc)
  | vpmacssdqh (d : Desc)
  | vpmacsdqh (d : Desc)
  | vpmadcsswd (d : Desc)
  | vpmadcswd (d : Desc)
deriving DecidableEq, Repr

/-- The descriptor an instruction is dispatched with. -/
def Instr.desc : Instr → Desc
  | .illegal d | .bt16G d | .bt16I d | .bt32G d | .bt32I d
  | .bt64G d | .bt64I d | .bts16G d | .bts16I d | .bts32G d
  | .bts32I d | .bts64G d | .bts64I d | .btr16G d | .btr16I d
  | .btr32G d | .btr32I d | .btr64G d | .btr64I d | .btc16G d
  | .btc16I d | .btc32G d | .btc32I d | .btc64G d | .btc64I d
  | .bsf16 d | .bsf32 d | .bsf64 d | .bsr16 d | .bsr32 d
  | .bsr64 d | .popcnt16 d | .popcnt32 d | .popcnt64 d | .tzcnt16 d
  | .tzcnt32 d | .tzcnt64 d | .lzcnt16 d | .lzcnt32 d | .lzcnt64 d
  | .andn32 d | .andn64 d | .bextr32 d | .bextr64 d | .blsi32 d
  | .blsi64 d | .blsmsk32 d | .blsmsk64 d | .blsr32 d | .blsr64 d
  | .bzhi32 d | .bzhi64 d | .mulx32 d | .mulx64 d | .pdep32 d
  | .pdep64 d | .pext32 d | .pext64 d | .rorx32 d | .rorx64 d
  | .sarx32 d | .sarx64 d | .shlx32 d | .shlx64 d | .shrx32 d
  | .shrx64 d | .bextri32 d | .bextri64 d | .blcfill32 d | .blcfill64 d
  | .blci32 d | .blci64 d | .blcic32 d | .blcic64 d | .blcmsk32 d
  | .blcmsk64 d | .blcs32 d | .blcs64 d | .blsfill32 d | .blsfill64 d
  | .blsic32 d | .blsic64 d | .t1mskc32 d | .t1mskc64 d | .tzmsk32 d
  | .tzmsk64 d | .paddb d | .paddw d | .paddd d | .paddq d
  | .psubb d | .psubw d | .psubd d | .psubq d | .pand d
  | .pandn d | .por d | .pxor d | .pcmpeqb d | .pcmpeqw d
  | .pcmpeqd d | .pcmpeqq d | .pcmpgtb d | .pcmpgtw d | .pcmpgtd d
  | .pcmpgtq d | .pminsb d | .pminsw d | .pminsd d | .pminub d
  | .pminuw d | .pminud d | .pmaxsb d | .pmaxsw d | .pmaxsd d
  | .pmaxub d | .pmaxuw d | .pmaxud d | .psllwI d | .pslldI d
  | .psllqI d | .psrlwI d | .psrldI d | .psrlqI d | .psrawI d
  | .psradI d | .pshufd d | .pshufb d | .movdquLd d | .movdquSt d
  | .vpaddb d | .vpaddw d | .vpaddd d | .vpaddq d | .vpsubb d
  | .vpsubw d | .vpsubd d | .vpsubq d | .vpandd d | .vpandq d
  | .vpandnd d | .vpandnq d | .vpord d | .vporq d | .vpxord d
  | .vpxorq d | .vpcmpeqb d | .vpcmpeqw d | .vpcmpeqd d | .vpcmpeqq d
  | .vpcmpgtb d | .vpcmpgtw d | .vpcmpgtd d | .vpcmpgtq d | .vpminsb d
  | .vpminsw d | .vpminsd d | .vpminsq d | .vpminub d | .vpminuw d
  | .vpminud d | .vpminuq d | .vpmaxsb d | .vpmaxsw d | .vpmaxsd d
  | .vpmaxsq d | .vpmaxub d | .vpmaxuw d | .vpmaxud d | .vpmaxuq d
  | .vpsllwI d | .vpslldI d | .vpsllqI d | .vpsrlwI d | .vpsrldI d
  | .vpsrlqI d | .vpsrawI d | .vpsradI d | .vpsraqI d | .vpsllvw d
  | .vpsllvd d | .vpsllvq d | .vpsrlvw d | .vpsrlvd d | .vpsrlvq d
  | .vpsravw d | .vpsravd d | .vpsravq d | .vpshufd d | .vpshufb d
  | .vmovdqu8Ld d | .vmovdqu16Ld d | .vmovdqu32Ld d | .vmovdqu64Ld d | .vmovdqu8St d
  | .vmovdqu16St d | .vmovdqu32St d | .vmovdqu64St d | .vpcmpb d | .vpcmpw d
  | .vpcmpd d | .vpcmpq d | .vpcmpub d | .vpcmpuw d | .vpcmpud d
  | .vpcmpuq d | .vpcompressb d | .vpcompressw d | .vpcompressd d | .vpcompressq d
  | .vpexpandb d | .vpexpandw d | .vpexpandd d | .vpexpandq d | .vpermb d
  | .vpermw d | .vpermd d | .vpermq d | .valignd d | .valignq d
  | .kmovbKg d | .kmovwKg d | .kmovdKg d | .kmovqKg d | .kmovbGk d
  | .kmovwGk d | .kmovdGk d | .kmovqGk d | .vpcomb d | .vpcomw d
  | .vpcomd d | .vpcomq d | .vpcomub d | .vpcomuw d | .vpcomud d
  | .vpcomuq d | .vpperm d | .vpcmov d | .vpmacssww d | .vpmacsww d
  | .vpmacsswd d | .vpmacswd d | .vpmacssdd d | .vpmacsdd d | .vpmacssdql d
  | .vpmacsdql d | .vpmacssdqh d | .vpmacsdqh d | .vpmadcsswd d | .vpmadcswd d => d

end Sys2Proof
end

