-- ==== Sys2Proof/Machine/Primitives.lean ====
section
/-! DEFINITION. Scalar and lane primitives (spec/40_primitives_flags_masking.md R140 to R147, R154 to R160). Pure functions;
a packed value of `L` bits is held zero-extended to 512 bits. -/

namespace Sys2Proof.Machine

/-- R140. -/
def popcnt {w : Nat} (x : BitVec w) : Nat :=
  (List.range w).countP fun i => x.getLsbD i

/-- R141: the index of the least significant 1 bit; `w` for 0. -/
def tzcnt {w : Nat} (x : BitVec w) : Nat :=
  ((List.range w).find? fun i => x.getLsbD i).getD w

/-- R142: the number of zero bits above the most significant 1 bit; `w` for 0. -/
def lzcnt {w : Nat} (x : BitVec w) : Nat :=
  ((List.range w).find? fun i => x.getLsbD (w - 1 - i)).getD w

/-- The value with ones in bits `n-1 .. 0`. -/
def lowOnes (w n : Nat) : BitVec w :=
  BitVec.ofNat w (2 ^ n - 1)

/-- R143. -/
def bextr {w : Nat} (x : BitVec w) (start len : BitVec 8) : BitVec w :=
  if w ≤ start.toNat ∨ len = 0#8 then 0#w
  else
    let t := x >>> start.toNat
    if w ≤ len.toNat then t else t &&& lowOnes w len.toNat

/-- R144: even parity of the low byte. -/
def parity8 {w : Nat} (x : BitVec w) : Bool :=
  popcnt (x.setWidth 8) % 2 == 0

/-- R145: signed saturation of an exact integer. -/
def satS (w : Nat) (v : Int) : BitVec w :=
  if 2 ^ (w - 1) - 1 < v then BitVec.ofInt w (2 ^ (w - 1) - 1)
  else if v < -(2 ^ (w - 1)) then BitVec.ofInt w (-(2 ^ (w - 1)))
  else BitVec.ofInt w v

/-- R182: truncation of an exact integer. -/
def truncS (w : Nat) (v : Int) : BitVec w :=
  BitVec.ofInt w v

/-- R146. -/
def bitrev8 (b : Byte) : Byte :=
  b.reverse

/-- One step of the loop of `pdep` (R147): bit `i` of the mask takes the next bit of `x`. -/
def pdepStep {w : Nat} (x m : BitVec w) (acc : BitVec w × Nat) (i : Nat) : BitVec w × Nat :=
  if m.getLsbD i then (acc.1 ||| (BitVec.ofBool (x.getLsbD acc.2)).setWidth w <<< i, acc.2 + 1) else acc

/-- R147. -/
def pdep {w : Nat} (x m : BitVec w) : BitVec w :=
  ((List.range w).foldl (pdepStep x m) (0#w, 0)).1

/-- One step of the loop of `pext` (R147): bit `i` of `x` goes to the next bit of the result. -/
def pextStep {w : Nat} (x m : BitVec w) (acc : BitVec w × Nat) (i : Nat) : BitVec w × Nat :=
  if m.getLsbD i then (acc.1 ||| (BitVec.ofBool (x.getLsbD i)).setWidth w <<< acc.2, acc.2 + 1) else acc

/-- R147. -/
def pext {w : Nat} (x m : BitVec w) : BitVec w :=
  ((List.range w).foldl (pextStep x m) (0#w, 0)).1

/-- R20: element `i` of width `w`. -/
def lane (w : Nat) (v : Packed) (i : Nat) : BitVec w :=
  v.extractLsb' (w * i) w

/-- The packed value whose elements 0 to `n-1` are those of `f`, and whose bits above are 0 (R20). -/
def packLanes (w : Nat) (f : Nat → BitVec w) : Nat → Packed
  | 0     => 0#512
  | n + 1 => packLanes w f n ||| (f n).setWidth 512 <<< (w * n)

/-- The low `L` bits of a packed value. -/
def lowBits (L : Nat) (v : Packed) : Packed :=
  v &&& lowOnes 512 L

/-- Bits 511:`L` of a packed value, in place. -/
def highBits (L : Nat) (v : Packed) : Packed :=
  v &&& ~~~ lowOnes 512 L

/-- An operation on two packed values of `L` bits. -/
abbrev PackedOp := Nat → Packed → Packed → Packed

/-- R160: `map1_w`. -/
def map1 (w : Nat) (f : BitVec w → BitVec w) (L : Nat) (a : Packed) : Packed :=
  packLanes w (fun i => f (lane w a i)) (L / w)

/-- R160: `map2_w`. -/
def map2 (w : Nat) (f : BitVec w → BitVec w → BitVec w) : PackedOp := fun L a b =>
  packLanes w (fun i => f (lane w a i) (lane w b i)) (L / w)

/-- R159: `cmp_lanes_w`. -/
def cmpLanes (w : Nat) (pred : BitVec w → BitVec w → Bool) : PackedOp :=
  map2 w fun a b => if pred a b then BitVec.allOnes w else 0#w

/-- R159: `cmp_mask_w`, as 64 bits. -/
def cmpMask (w : Nat) (pred : BitVec w → BitVec w → Bool) (L : Nat) (a b : Packed) : Word :=
  (packLanes 1 (fun i => BitVec.ofBool (pred (lane w a i) (lane w b i))) (L / w)).setWidth 64

section
variable {w : Nat}

/-! Per-lane operations (R154). -/

/-- R154. -/
def addL (a b : BitVec w) : BitVec w := a + b
/-- R154. -/
def subL (a b : BitVec w) : BitVec w := a - b
/-- R154. -/
def minsL (a b : BitVec w) : BitVec w := if a.toInt ≤ b.toInt then a else b
/-- R154. -/
def maxsL (a b : BitVec w) : BitVec w := if b.toInt ≤ a.toInt then a else b
/-- R154. -/
def minuL (a b : BitVec w) : BitVec w := if a.toNat ≤ b.toNat then a else b
/-- R154. -/
def maxuL (a b : BitVec w) : BitVec w := if b.toNat ≤ a.toNat then a else b
/-- R154: 0 at or above the width. -/
def shlL (a : BitVec w) (c : Nat) : BitVec w := if w ≤ c then 0#w else a <<< c
/-- R154: 0 at or above the width. -/
def shrL (a : BitVec w) (c : Nat) : BitVec w := if w ≤ c then 0#w else a >>> c
/-- R154: sign copies at or above the width. -/
def sarL (a : BitVec w) (c : Nat) : BitVec w :=
  if w ≤ c then (if a.msb then BitVec.allOnes w else 0#w) else a.sshiftRight c

/-! Lane comparison predicates (R155): `S` signed, `U` unsigned. -/

/-- R155. -/
def eqP (a b : BitVec w) : Bool := a == b
/-- R155. -/
def ltS (a b : BitVec w) : Bool := decide (a.toInt < b.toInt)
/-- R155. -/
def leS (a b : BitVec w) : Bool := decide (a.toInt ≤ b.toInt)
/-- R155. -/
def gtS (a b : BitVec w) : Bool := decide (b.toInt < a.toInt)
/-- R155. -/
def geS (a b : BitVec w) : Bool := decide (b.toInt ≤ a.toInt)
/-- R155. -/
def ltU (a b : BitVec w) : Bool := decide (a.toNat < b.toNat)
/-- R155. -/
def leU (a b : BitVec w) : Bool := decide (a.toNat ≤ b.toNat)
/-- R155. -/
def gtU (a b : BitVec w) : Bool := decide (b.toNat < a.toNat)
/-- R155. -/
def geU (a b : BitVec w) : Bool := decide (b.toNat ≤ a.toNat)

/-- R156: `avx512_compare`, signed reading: EQ, LT, LE, FALSE, NE, NLT, NLE, TRUE. -/
def avx512CompareS (p : BitVec 3) (a b : BitVec w) : Bool :=
  match p.toNat with
  | 0 => eqP a b
  | 1 => ltS a b
  | 2 => leS a b
  | 3 => false
  | 4 => !eqP a b
  | 5 => geS a b
  | 6 => gtS a b
  | _ => true

/-- R156: `avx512_compare`, unsigned reading. -/
def avx512CompareU (p : BitVec 3) (a b : BitVec w) : Bool :=
  match p.toNat with
  | 0 => eqP a b
  | 1 => ltU a b
  | 2 => leU a b
  | 3 => false
  | 4 => !eqP a b
  | 5 => geU a b
  | 6 => gtU a b
  | _ => true

/-- R157: `xop_compare`, signed reading: LT, LE, GT, GE, EQ, NEQ, FALSE, TRUE. -/
def xopCompareS (p : BitVec 3) (a b : BitVec w) : Bool :=
  match p.toNat with
  | 0 => ltS a b
  | 1 => leS a b
  | 2 => gtS a b
  | 3 => geS a b
  | 4 => eqP a b
  | 5 => !eqP a b
  | 6 => false
  | _ => true

/-- R157: `xop_compare`, unsigned reading. -/
def xopCompareU (p : BitVec 3) (a b : BitVec w) : Bool :=
  match p.toNat with
  | 0 => ltU a b
  | 1 => leU a b
  | 2 => gtU a b
  | 3 => geU a b
  | 4 => eqP a b
  | 5 => !eqP a b
  | 6 => false
  | _ => true

end

/-- R158: `vpperm_op`. -/
def vppermOp (op : BitVec 3) (b : Byte) : Byte :=
  match op.toNat with
  | 0 => b
  | 1 => ~~~ b
  | 2 => bitrev8 b
  | 3 => ~~~ bitrev8 b
  | 4 => 0x00#8
  | 5 => 0xFF#8
  | 6 => if b.msb then 0xFF#8 else 0x00#8
  | _ => if b.msb then 0x00#8 else 0xFF#8

/-! Bitwise operations on whole packed values (R154, R252 to R255): the operands are zero above `L`. -/

/-- R252. -/
def andP : PackedOp := fun _ a b => a &&& b
/-- R253: the first operand is the one complemented. -/
def andnP : PackedOp := fun _ a b => ~~~ a &&& b
/-- R254. -/
def orP : PackedOp := fun _ a b => a ||| b
/-- R255. -/
def xorP : PackedOp := fun _ a b => a ^^^ b

/-- R268: the dwords of each 128-bit group chosen by the four 2-bit selectors of `imm`. -/
def pshufd (imm : BitVec 8) (L : Nat) (b : Packed) : Packed :=
  packLanes 32 (fun i => lane 32 b (4 * (i / 4) + (imm.extractLsb' (2 * (i % 4)) 2).toNat)) (L / 32)

/-- R269: the bytes of each 128-bit group of `a` chosen by the control bytes of `b`. -/
def pshufb : PackedOp := fun L a b =>
  packLanes 8 (fun i =>
    let c := lane 8 b i
    if c.msb then 0x00#8 else lane 8 a (16 * (i / 16) + (c.extractLsb' 0 4).toNat)) (L / 8)

/-- R294: the elements of the table `t` at the indices `ix`, taken modulo the element count. -/
def vperm (w : Nat) : PackedOp := fun L ix t =>
  packLanes w (fun i => lane w t ((lane w ix i).toNat % (L / w))) (L / w)

/-- R295: elements `s` to `s + n - 1` of the concatenation of `h` (high) and `l` (low), `s` modulo the element count. -/
def valign (w : Nat) (imm : BitVec 8) : PackedOp := fun L h l =>
  packLanes w (fun i =>
    let t := i + imm.toNat % (L / w)
    if t < L / w then lane w l t else lane w h (t - L / w)) (L / w)

/-- The indices below `n` whose bit of `k` is 1, ascending (R292, R293). -/
def selected (k : Word) (n : Nat) : List Nat :=
  (List.range n).filter fun i => k.getLsbD i

/-- How many bits of `k` below bit `i` are 1: the rank of element `i` among the selected ones (R293). -/
def rank (k : Word) (i : Nat) : Nat :=
  (List.range i).countP fun j => k.getLsbD j

/-- R292: the selected elements of `src` packed toward element 0, zeros above. -/
def compress (w : Nat) (k : Word) (n : Nat) (src : Packed) : Packed :=
  packLanes w (fun t => lane w src ((selected k n).getD t 0)) (selected k n).length

/-- R293: the `j`-th selected position receives the `j`-th of `es`; the other elements are 0. -/
def scatter (w : Nat) (k : Word) (n : Nat) (es : List (BitVec w)) : Packed :=
  packLanes w (fun i => if k.getLsbD i then es.getD (rank k i) 0#w else 0#w) n

/-- R323: each byte of the result is a byte of the two sources, through the operation its selector names. -/
def vpperm (a b c : Packed) : Packed :=
  packLanes 8 (fun i =>
    let sel := lane 8 c i
    let ix := (sel.extractLsb' 0 4).toNat
    vppermOp (sel.extractLsb' 5 3) (if sel.getLsbD 4 then lane 8 a ix else lane 8 b ix)) 16

/-- R324. -/
def cmov (a b c : Packed) : Packed :=
  (a &&& c) ||| (b &&& ~~~ c)

/-- The signed reading of element `i` (R20). -/
def laneS (w : Nat) (v : Packed) (i : Nat) : Int :=
  (lane w v i).toInt

/-- The exact products and sums of the XOP multiply-accumulates, narrowed by `fin`: element `i` of width `wr` of the result
is `fin` of the product of elements `pick i` of width `ws`, plus element `i` of the accumulator (R320, R325 to R334). -/
def mac (ws wr : Nat) (pick : Nat → Nat) (fin : Int → BitVec wr) (a b c : Packed) : Packed :=
  packLanes wr (fun i => fin (laneS ws a (pick i) * laneS ws b (pick i) + laneS wr c i)) (128 / wr)

/-- R335, R336: both words of each pair are multiplied and added. -/
def mad (fin : Int → BitVec 32) (a b c : Packed) : Packed :=
  packLanes 32 (fun i =>
    fin (laneS 16 a (2 * i) * laneS 16 b (2 * i) + laneS 16 a (2 * i + 1) * laneS 16 b (2 * i + 1) + laneS 32 c i)) 4

end Sys2Proof.Machine
end

