-- ==== Sys2Proof/Machine/State.lean ====
section
/-! DEFINITION. The state of the machine, plain data (spec/10_state.md), its fault and refusal types, and the state after
reset (R71, R72). -/

namespace Sys2Proof.Machine

/-- The internal invariant violations of R447. -/
inductive Invariant where
  /-- "timer underflow" (R405) -/
  | timerUnderflow
  /-- "acknowledge with INTR not asserted" (R365) -/
  | acknowledgeWithoutIntr
  /-- "EOI with no ISR bit set" (R366) -/
  | eoiWithoutIsr
deriving DecidableEq, Repr

/-- Why the machine stops. -/
inductive Fault where
  /-- R447 under `INVARIANT_POLICY = fault`: raised by `LAPIC[c]`; the operation ends, no state changes and the model
  stops. Safe: the spec itself stops here. -/
  | invariantViolation (i : Invariant)
deriving DecidableEq, Repr

/-- Why a step has no meaning. -/
inductive Refusal where
  /-- An instruction that has no meaning yet; raised by `exec` only. Safe. -/
  | notModelled (mnemonic : String)
  /-- R120: a malformed descriptor, with the clause it breaks; raised by every handler. Safe: the spec gives such a
  descriptor no meaning ("a model refuses it"). -/
  | malformedDescriptor (clause : Malformed)
  /-- A request of a collaborator that names a CPU the machine does not have; raised by `step`. Safe. -/
  | noSuchCpu (c : Nat)
deriving DecidableEq, Repr

/-- A memory fault as `MEM` returns it (R81, R353): the EE forwards it unchanged. The spec gives the record no widths; that
`errorCode` has 32 bits, `vector` 8 and `address` 64 is the model's choice (DESIGN CHOICE, log 29). -/
structure MemFaultRecord where
  vector    : BitVec 8
  errorCode : BitVec 32
  address   : Word
deriving DecidableEq, Repr

/-- A fault signal to `CTRL[c]` (R351). `InvariantViolation` is `Fault.invariantViolation`. -/
inductive FaultSignal where
  | invalidOpcode
  | memFault (r : MemFaultRecord)
  /-- `offset`, `size`, `is_write` of the access (R354). -/
  | malformedApicAccess (offset : Word) (size : Nat) (isWrite : Bool)
deriving DecidableEq, Repr

/-- The four values of the LAPIC's `mode` (R33). -/
inductive ApicMode where
  | disabled | globallyDisabled | xapic | x2apic
deriving DecidableEq, Repr

/-- Trigger mode of an interrupt message (R363). -/
inductive Trigger where
  | edge | level
deriving DecidableEq, Repr

/-- What the time facility holds for the handle of one LAPIC timer: `armed[h]` and `expiry[h]` (R70). The spec's handle is
opaque; the record stands for it (log 12). -/
structure TimerHandle where
  armed  : Bool
  expiry : Word
deriving DecidableEq, Repr

/-- The stored state of `LAPIC[c]` (R30), with the pending-interrupt event `intr_pending[c]` (R26). -/
structure Lapic where
  apicId            : BitVec 32
  irr               : Bitmap
  isr               : Bitmap
  tmr               : Bitmap
  ier               : Bitmap
  /-- 0 timer, 1 thermal, 2 perfmon, 3 LINT0, 4 LINT1, 5 error, 6 CMCI -/
  lvt               : Vector (BitVec 32) 7
  icrLo             : BitVec 32
  icrHi             : BitVec 32
  timerInitial      : BitVec 32
  timerCurrent      : BitVec 32
  timerDivconf      : BitVec 4
  timerDivideFactor : BitVec 8
  timerActive       : Bool
  ticksInitial      : Word
  timerHandle       : TimerHandle
  taskPriority      : BitVec 8
  spuriousVector    : BitVec 8
  softwareEnabled   : Bool
  focusDisable      : Bool
  ldr               : BitVec 32
  destFormat        : BitVec 4
  mode              : ApicMode
  xapicExt          : BitVec 32
  errorStatus       : BitVec 32
  shadowErrorStatus : BitVec 32
  intrPending       : Bool
deriving DecidableEq, Repr

/-- The registers of `EE[c]`: general registers (R10), RIP (R14), RFLAGS (R15, R17), vector registers (R18), opmask
registers (R22). -/
structure Ee where
  gpr    : Vector Word 16
  rip    : Word
  rflags : Word
  v      : Vector Packed 32
  k      : Vector Word 8
deriving DecidableEq, Repr

/-- One logical CPU: `EE[c]`, `LAPIC[c]` and their constant inputs `FEATURES` (R24) and `APIC_ID0[c]` (R5). -/
structure Cpu where
  ee       : Ee
  lapic    : Lapic
  features : Features
  apicId0  : BitVec 32
deriving DecidableEq, Repr

/-- A range of addresses on which `MEM` answers with a fault (R81, R353; the collaborator's, log 7). -/
structure MemFaultRange where
  base      : Word
  size      : Word
  onRead    : Bool
  onWrite   : Bool
  vector    : BitVec 8
  errorCode : BitVec 32
deriving DecidableEq, Repr

/-- What the collaborators do to the block, one element per step (R4, R360, R460; log 1, log 13). `c` is a CPU index. -/
inductive Input where
  /-- `CTRL[c]` presents a descriptor word to `EE[c]` (R111). -/
  | descriptor (c : Nat) (w : DescWord)
  /-- `acknowledge_int` (R365). -/
  | acknowledgeInt (c : Nat)
  /-- `read_x2apic` of MSR `0x800 + index` (R431). -/
  | readX2apic (c : Nat) (index : BitVec 8)
  /-- `write_x2apic` of MSR `0x800 + index` (R432). -/
  | writeX2apic (c : Nat) (index : BitVec 8) (hi lo : BitVec 32)
  /-- `set_mode` (R436). -/
  | setMode (c : Nat) (m : ApicMode)
  /-- `set_tsc_deadline` (R407). -/
  | setTscDeadline (c : Nat) (deadline : Word)
  /-- `get_tsc_deadline` (R408). -/
  | getTscDeadline (c : Nat)
  /-- `init` (R463). -/
  | init (c : Nat)
  /-- `software_reset` (R464). -/
  | softwareReset (c : Nat)
  /-- `hardware_reset` (R460, R461). -/
  | hardwareReset
  /-- The environment calls `bus_deliver` with its own message (R372, R377, R378). -/
  | busMessage (dest : BitVec 32) (dm : BitVec 3) (logical : Bool) (trig : Trigger) (vec : BitVec 8)
  /-- The environment calls `trigger_irq` itself (R391, D60). -/
  | triggerIrq (c : Nat) (vec : BitVec 8) (trig : Trigger)
  /-- `TIME` advances `now` (R70). -/
  | advanceTime (ticks : Word)
  /-- `TIME` invokes `periodic()` of `LAPIC[c]` (R4, R70, R406). -/
  | periodic (c : Nat)
  /-- Another bus agent writes a byte of memory (R88, R96). -/
  | memWrite (addr : Word) (b : Byte)
  /-- `MEM` changes the ranges on which it faults (R81). -/
  | memFaults (rs : List MemFaultRange)
deriving DecidableEq, Repr

/-- A call of `LAPIC[c]` on its collaborators (R355, R385), or a note of a recovered invariant violation (R442, R447). -/
inductive LapicEvent where
  | signalEvent
  | clearEvent
  | deliverSmi
  | deliverNmi
  | deliverInit
  | deliverSipi (vec : BitVec 8)
  | broadcastEoi (vec : BitVec 8)
  | invariant (i : Invariant)
deriving DecidableEq, Repr

/-- What leaves the block (R350, R355, R385, R430): fault signals, LAPIC callbacks, and answers to `CTRL[c]`'s calls. -/
inductive Output where
  | fault (c : Nat) (sig : FaultSignal)
  | lapic (c : Nat) (e : LapicEvent)
  /-- `acknowledge_int` returned a vector. -/
  | acknowledged (c : Nat) (vec : BitVec 8)
  /-- `read_x2apic` returned a value, or failed. -/
  | msrRead (c : Nat) (value : Option Word)
  /-- `write_x2apic` succeeded, or failed. -/
  | msrWritten (c : Nat) (ok : Bool)
  /-- `set_mode` succeeded, or failed. -/
  | modeSet (c : Nat) (ok : Bool)
  /-- `get_tsc_deadline` returned a value. -/
  | deadlineRead (c : Nat) (value : Word)
  /-- the environment's message was accepted, or not (R377). -/
  | busAccepted (ok : Bool)
deriving DecidableEq, Repr

/-- The whole machine. The CPUs, in index order, are `below ++ cpu :: above`: `cpu` is the one in focus, the one whose agent
acts (log 14). -/
structure State where
  cfg       : Config
  below     : List Cpu
  cpu       : Cpu
  above     : List Cpu
  /-- Data memory (R80): (address, byte) pairs in canonical form, see `Memory.wf` in Ops.lean. -/
  mem       : List Host.Cell
  memFaults : List MemFaultRange
  /-- `now`, the tick counter of the time facility (R70). -/
  now       : Word
  /-- What the collaborators do next, in order. -/
  inputs    : List Input
  /-- What has left the block, oldest first. -/
  trace     : List Output
  /-- How many free flag values have been used (R153 under `draw`; log 6). -/
  draws     : Nat
deriving DecidableEq, Repr

/-- R71: the registers of `EE[c]` after a hardware reset; `GPR[2]` is `RESET_RDX`. -/
def Ee.reset (cfg : Config) : Ee where
  gpr    := (Vector.replicate 16 0#64).set 2 cfg.resetRdx
  rip    := 0x000000000000FFF0#64
  rflags := 0x0000000000000002#64
  v      := Vector.replicate 32 0#512
  k      := Vector.replicate 8 0#64

/-- R72: the state of `LAPIC[c]` after construction, with identifier `id`. -/
def Lapic.reset (id : BitVec 32) : Lapic where
  apicId            := id
  irr               := Vector.replicate 8 0#32
  isr               := Vector.replicate 8 0#32
  tmr               := Vector.replicate 8 0#32
  ier               := Vector.replicate 8 0xFFFFFFFF#32
  lvt               := Vector.replicate 7 0x00010000#32
  icrLo             := 0#32
  icrHi             := 0#32
  timerInitial      := 0#32
  timerCurrent      := 0#32
  timerDivconf      := 0#4
  timerDivideFactor := 2#8
  timerActive       := false
  ticksInitial      := 0#64
  timerHandle       := ⟨false, 0#64⟩
  taskPriority      := 0#8
  spuriousVector    := 0xFF#8
  softwareEnabled   := false
  focusDisable      := false
  ldr               := 0#32
  destFormat        := 0xF#4
  mode              := .xapic
  xapicExt          := 0#32
  errorStatus       := 0#32
  shadowErrorStatus := 0#32
  intrPending       := false

/-- CPU `c` after construction and hardware reset: `APIC_ID0[c] = c`, all features enabled (R5). -/
def Cpu.reset (cfg : Config) (c : Nat) : Cpu where
  ee       := Ee.reset cfg
  lapic    := Lapic.reset (BitVec.ofNat 32 c)
  features := Features.all
  apicId0  := BitVec.ofNat 32 c

/-- The machine with parameters `cfg` and `n + 1` CPUs after a hardware reset, CPU 0 in focus. Memory lists nothing, `now` is
0 and no collaborator has acted (DESIGN CHOICE, log 1, log 2, log 7, log 12). -/
def State.resetWith (cfg : Config) (n : Nat) : State where
  cfg       := cfg
  below     := []
  cpu       := Cpu.reset cfg 0
  above     := (List.range n).map fun c => Cpu.reset cfg (c + 1)
  mem       := []
  memFaults := []
  now       := 0#64
  inputs    := []
  trace     := []
  draws     := 0

/-- The machine right after reset, with the parameter values of R5 and two CPUs (R5 leaves NCPU OPEN, "tests use 1 or 2";
DESIGN CHOICE, log 3). -/
def State.reset : State :=
  State.resetWith Config.default 1

end Sys2Proof.Machine
end

