-- ==== Sys2Proof/Machine/Lapic.lean ====
section
/-! DEFINITION. The interrupt machinery of one local APIC (spec/60_exceptions.md R361 to R371, R447). Every operation takes
the LAPIC and answers with the LAPIC after it and the calls it made on its collaborators, in order. -/

namespace Sys2Proof.Machine

/-- What a LAPIC operation leaves: the LAPIC, and the calls it made (R355). -/
abbrev LapicEff := Lapic × List LapicEvent

/-- One operation after another. -/
def LapicEff.andThen (r : LapicEff) (f : Lapic → LapicEff) : LapicEff :=
  ((f r.1).1, r.2 ++ (f r.1).2)

/-- R447: an invariant violation; `recovery` is what the rule's recovery leaves. -/
def violation {α : Type} (cfg : Config) (i : Invariant) (recovery : α) : Except Invariant α :=
  match cfg.invariantPolicy with
  | .fault   => .error i
  | .recover => .ok recovery

/-! Bitmaps (R361). -/

/-- Word `n` of a bitmap. -/
def bmWord (m : Bitmap) (n : Nat) : BitVec 32 :=
  m[n % 8]'(Nat.mod_lt _ (by decide))

/-- A bitmap with word `n` replaced. -/
def bmSetWord (m : Bitmap) (n : Nat) (x : BitVec 32) : Bitmap :=
  m.set (n % 8) x (Nat.mod_lt _ (by decide))

/-- R361: `test(map, v)`. -/
def bmTest (m : Bitmap) (v : BitVec 8) : Bool :=
  (bmWord m (v.toNat / 32)).getLsbD (v.toNat % 32)

/-- R361: `set(map, v)`. -/
def bmSet (m : Bitmap) (v : BitVec 8) : Bitmap :=
  bmSetWord m (v.toNat / 32) (bmWord m (v.toNat / 32) ||| 1#32 <<< (v.toNat % 32))

/-- R361: `clear(map, v)`. -/
def bmClear (m : Bitmap) (v : BitVec 8) : Bitmap :=
  bmSetWord m (v.toNat / 32) (bmWord m (v.toNat / 32) &&& ~~~ (1#32 <<< (v.toNat % 32)))

/-- R362: whether the interrupt-enable registers mask the priority scan. -/
def Lapic.ierActive (cfg : Config) (l : Lapic) : Bool :=
  cfg.xapicExtSupported && l.xapicExt.getLsbD 0

/-- R362: the scan of words `n-1` down to 0 of `map`, each masked by the same word of `ier` when `masked`. -/
def scanDown (masked : Bool) (ier map : Bitmap) : Nat → Option (BitVec 8)
  | 0     => none
  | n + 1 =>
    let m := if masked then bmWord map n &&& bmWord ier n else bmWord map n
    if m ≠ 0#32 then some (BitVec.ofNat 8 (n * 32 + (31 - lzcnt m))) else scanDown masked ier map n

/-- R362: `highest_priority_int(map)`. -/
def Lapic.highestPriorityInt (cfg : Config) (l : Lapic) (map : Bitmap) : Option (BitVec 8) :=
  scanDown (l.ierActive cfg) l.ier map 8

/-- The priority class, `v & 0xF0` (R7 glossary). -/
def prioClass (v : BitVec 8) : BitVec 8 :=
  v &&& 0xF0#8

/-- R364: whether `service_local_apic` asserts the signal. -/
def Lapic.signals (cfg : Config) (l : Lapic) : Bool :=
  if l.intrPending then false
  else
    match l.highestPriorityInt cfg l.irr with
    | none => false
    | some first =>
      (match l.highestPriorityInt cfg l.isr with
        | none => true
        | some inService => decide (inService.toNat < first.toNat))
      && decide ((prioClass l.taskPriority).toNat < (prioClass first).toNat)

/-- R364: `service_local_apic()`. -/
def Lapic.service (cfg : Config) (l : Lapic) : LapicEff :=
  if l.signals cfg then ({ l with intrPending := true }, [.signalEvent]) else (l, [])

/-- R434: bits accumulate in the shadow error status. -/
def Lapic.recordError (bits : BitVec 32) (l : Lapic) : Lapic :=
  { l with shadowErrorStatus := l.shadowErrorStatus ||| bits }

/-- R363: `trigger_irq(v, trig, bypass)`. -/
def Lapic.triggerIrq (cfg : Config) (v : BitVec 8) (trig : Trigger) (bypass : Bool) (l : Lapic) : LapicEff :=
  if prioClass v = 0#8 then (l.recordError 0x40#32, [])
  else if !bypass && bmTest l.irr v then (l, [])
  else
    Lapic.service cfg
      { l with irr := bmSet l.irr v
               tmr := match trig with
                 | .level => bmSet l.tmr v
                 | .edge  => bmClear l.tmr v }

/-- R367: `get_ppr()`. -/
def Lapic.ppr (cfg : Config) (l : Lapic) : BitVec 8 :=
  match l.highestPriorityInt cfg l.isr with
  | none => l.taskPriority
  | some v => if (prioClass v).toNat ≤ (prioClass l.taskPriority).toNat then l.taskPriority else prioClass v

/-- R368: `get_apr()`. -/
def Lapic.apr (cfg : Config) (l : Lapic) : BitVec 8 :=
  let tpr  := l.taskPriority.extractLsb' 4 4
  let isrv := ((l.highestPriorityInt cfg l.isr).getD 0#8).extractLsb' 4 4
  let irrv := ((l.highestPriorityInt cfg l.irr).getD 0#8).extractLsb' 4 4
  if irrv.toNat ≤ tpr.toNat ∧ isrv.toNat < tpr.toNat then l.taskPriority
  else
    let both := tpr &&& isrv
    (if irrv.toNat ≤ both.toNat then both else irrv).setWidth 8 <<< 4

/-- R365, after the signal was found asserted: clear it, and accept the highest pending vector above the processor priority,
or answer with the spurious vector. -/
def Lapic.accept (cfg : Config) (l : Lapic) : BitVec 8 × LapicEff :=
  let l := { l with intrPending := false }
  match l.highestPriorityInt cfg l.irr with
  | none => (l.spuriousVector, (l, [.clearEvent]))
  | some v =>
    if (prioClass v).toNat ≤ (prioClass (l.ppr cfg)).toNat then (l.spuriousVector, (l, [.clearEvent]))
    else
      (v, LapicEff.andThen ({ l with irr := bmClear l.irr v, isr := bmSet l.isr v }, [.clearEvent]) (Lapic.service cfg))

/-- R365: `acknowledge_int()`. -/
def Lapic.acknowledgeInt (cfg : Config) (l : Lapic) : Except Invariant (BitVec 8 × LapicEff) :=
  if l.intrPending then .ok (l.accept cfg)
  else
    violation cfg .acknowledgeWithoutIntr (l.spuriousVector, (l, [.invariant .acknowledgeWithoutIntr]))

/-- R366, R369: end vector `v`, which is in service. -/
def Lapic.endOfInterrupt (cfg : Config) (v : BitVec 8) (l : Lapic) : LapicEff :=
  let l := { l with isr := bmClear l.isr v }
  if bmTest l.tmr v then
    LapicEff.andThen ({ l with tmr := bmClear l.tmr v }, [.broadcastEoi v]) (Lapic.service cfg)
  else Lapic.service cfg l

/-- R366: `receive_EOI()`. -/
def Lapic.receiveEoi (cfg : Config) (l : Lapic) : Except Invariant LapicEff :=
  match l.highestPriorityInt cfg l.isr with
  | none => violation cfg .eoiWithoutIsr (l, [.invariant .eoiWithoutIsr])
  | some v => .ok (l.endOfInterrupt cfg v)

/-- R369: `receive_SEOI(v)`. -/
def Lapic.receiveSeoi (cfg : Config) (v : BitVec 8) (l : Lapic) : LapicEff :=
  if bmTest l.isr v then l.endOfInterrupt cfg v else (l, [])

/-- R370: `set_tpr(p)`. -/
def Lapic.setTpr (cfg : Config) (p : BitVec 8) (l : Lapic) : LapicEff :=
  Lapic.service cfg { l with taskPriority := p }

/-- R376: `deliver(vec, dm, trig)`. -/
def Lapic.deliver (cfg : Config) (dm : BitVec 3) (vec : BitVec 8) (trig : Trigger) (l : Lapic) : LapicEff :=
  match dm.toNat with
  | 0 => l.triggerIrq cfg vec trig false
  | 1 => l.triggerIrq cfg vec trig false
  | 2 => (l, [.deliverSmi])
  | 3 => (l, [])
  | 4 => (l, [.deliverNmi])
  | 5 => (l, [.deliverInit])
  | 6 => (l, [.deliverSipi vec])
  | _ => l.triggerIrq cfg vec trig true

end Sys2Proof.Machine
end

