-- ==== Sys2Proof/Machine/Timer.lean ====
section
/-! DEFINITION. The LAPIC timer (spec/60_exceptions.md R400 to R410, spec/10_state.md R62, R70). `now` is `time_ticks()`. -/

namespace Sys2Proof.Machine

/-- R62: `divide_decode(c)`. -/
def divideDecode (c : BitVec 4) : BitVec 8 :=
  let s := BitVec.ofBool (c.getLsbD 3) ++ c.extractLsb' 0 2
  if s = 7#3 then 1#8 else 1#8 <<< (s.toNat + 1)

/-- R403: bit 18 of LVT_TIMER, TSC-deadline mode. -/
def Lapic.tscMode (l : Lapic) : Bool := l.lvt[0].getLsbD 18

/-- R403: bit 17 of LVT_TIMER, periodic countdown. -/
def Lapic.periodicMode (l : Lapic) : Bool := l.lvt[0].getLsbD 17

/-- R70, R400: `activate_timer_ticks(timer_handle, delay, false)`. -/
def Lapic.activateTimer (now delay : Word) (l : Lapic) : Lapic :=
  { l with timerHandle := ⟨true, now + delay⟩ }

/-- R70, R400, R409: `deactivate_timer(timer_handle)`, idempotent. -/
def Lapic.deactivateTimer (l : Lapic) : Lapic :=
  { l with timerHandle := { l.timerHandle with armed := false } }

/-- The guarded disarm of R404, R407, R410: `if timer_active = 1: deactivate_timer(timer_handle) ; timer_active <- 0`. -/
def Lapic.stopTimer (l : Lapic) : Lapic :=
  if l.timerActive then { l.deactivateTimer with timerActive := false } else l

/-- The 64-bit product of an initial count and the divide factor (R404, R406). -/
def Lapic.countdownTicks (l : Lapic) : Word :=
  l.timerInitial.setWidth 64 * l.timerDivideFactor.setWidth 64

/-- R402: `set_divide_configuration(value)`. -/
def Lapic.setDivide (value : BitVec 32) (l : Lapic) : Lapic :=
  let c := value.setWidth 4 &&& 0xB#4
  { l with timerDivconf := c, timerDivideFactor := divideDecode c }

/-- R404: `set_initial_timer_count(value)`. -/
def Lapic.setInitialCount (now : Word) (value : BitVec 32) (l : Lapic) : Lapic :=
  if l.tscMode then l
  else
    let l := { l.stopTimer with timerInitial := value, timerCurrent := 0#32 }
    if value = 0#32 then l
    else
      let l := { l with timerCurrent := value, timerActive := true, ticksInitial := now }
      l.activateTimer now l.countdownTicks

/-- R405: the ticks since the countdown started, in units of the divide factor. -/
def Lapic.elapsed (now : Word) (l : Lapic) : Nat :=
  (now - l.ticksInitial).toNat / l.timerDivideFactor.toNat

/-- R405: `get_current_timer_count()`: the value read, and the LAPIC with `timer_current` stored. -/
def Lapic.currentCount (cfg : Config) (now : Word) (l : Lapic) : Except Invariant (BitVec 32 × LapicEff) :=
  if l.tscMode then .ok (0#32, (l, []))
  else if !l.timerActive then .ok (l.timerCurrent, (l, []))
  else if l.timerInitial.toNat < l.elapsed now then
    violation cfg .timerUnderflow (0#32, ({ l with timerCurrent := 0#32 }, [.invariant .timerUnderflow]))
  else
    let c := l.timerInitial - BitVec.ofNat 32 (l.elapsed now)
    .ok (c, ({ l with timerCurrent := c }, []))

/-- R406: what `periodic()` does after the interrupt was raised: re-arm or disarm. -/
def Lapic.rearm (now : Word) (l : Lapic) : Lapic :=
  if l.tscMode then { l.deactivateTimer with timerActive := false, ticksInitial := 0#64 }
  else if l.periodicMode then
    Lapic.activateTimer now l.countdownTicks { l with timerCurrent := l.timerInitial, ticksInitial := now }
  else { l.deactivateTimer with timerCurrent := 0#32, timerActive := false }

/-- R406: `periodic()`, the expiry callback. -/
def Lapic.periodic (cfg : Config) (now : Word) (l : Lapic) : LapicEff :=
  if !l.timerActive then (l, [])
  else
    let r : LapicEff :=
      if l.lvt[0].getLsbD 16 then (l, []) else l.triggerIrq cfg (l.lvt[0].setWidth 8) .edge false
    r.andThen fun l => (l.rearm now, [])

/-- R407: `set_tsc_deadline(deadline)`. -/
def Lapic.setDeadline (now deadline : Word) (l : Lapic) : Lapic :=
  if !l.tscMode then l
  else
    let l := { l.stopTimer with ticksInitial := deadline }
    if deadline = 0#64 then l
    else
      Lapic.activateTimer now (if now.toNat < deadline.toNat then deadline - now else 1#64)
        { l with timerActive := true }

/-- R408: `get_tsc_deadline()`. -/
def Lapic.deadline (l : Lapic) : Word :=
  if l.tscMode then l.ticksInitial else 0#64

/-- R410: write of LVT_TIMER. -/
def Lapic.writeLvtTimer (cfg : Config) (value : BitVec 32) (l : Lapic) : Lapic :=
  let v := if cfg.tscDeadlineSupported then value else value &&& ~~~ 0x00040000#32
  let l := if v.getLsbD 18 = l.tscMode then l else { l.stopTimer with ticksInitial := 0#64 }
  { l with lvt := l.lvt.set 0 (v &&& 0x000700FF#32) }

end Sys2Proof.Machine
end

