-- ==== Sys2Proof/Machine/Bus.lean ====
section
/-! DEFINITION. The APIC bus (spec/60_exceptions.md R375 to R385): routing of interrupt messages between the LAPICs of the
machine. -/

namespace Sys2Proof.Machine

/-- The CPUs in index order. -/
def State.cpus (s : State) : List Cpu :=
  s.below ++ s.cpu :: s.above

/-- The index of the CPU in focus. -/
def State.focus (s : State) : Nat :=
  s.below.length

/-- `LAPIC[i]`. -/
def State.lapicAt (s : State) (i : Nat) : Option Lapic :=
  (s.cpus[i]?).map Cpu.lapic

/-- The CPU with its LAPIC replaced. -/
def Cpu.setLapic (l : Lapic) (c : Cpu) : Cpu :=
  { c with lapic := l }

/-- The machine with `LAPIC[i]` replaced. -/
def State.setLapicAt (s : State) (i : Nat) (l : Lapic) : State :=
  if i < s.focus then { s with below := s.below.modify i (Cpu.setLapic l) }
  else if i = s.focus then { s with cpu := s.cpu.setLapic l }
  else { s with above := s.above.modify (i - s.focus - 1) (Cpu.setLapic l) }

/-- R355: the calls of `LAPIC[i]` are recorded in the trace. -/
def State.emit (s : State) (i : Nat) (es : List LapicEvent) : State :=
  { s with trace := s.trace ++ es.map (Output.lapic i) }

/-- One atomic operation of `LAPIC[i]` (R360). -/
def State.onLapic (s : State) (i : Nat) (f : Lapic → LapicEff) : State :=
  match s.lapicAt i with
  | none => s
  | some l => (s.setLapicAt i (f l).1).emit i (f l).2

/-- The result of an operation on the LAPIC in focus. -/
def State.putLapic (s : State) (r : LapicEff) : State :=
  { s with cpu := s.cpu.setLapic r.1, trace := s.trace ++ r.2.map (Output.lapic s.focus) }

/-- R383: whether a LAPIC takes messages from the bus. -/
def Lapic.isLive (l : Lapic) : Bool :=
  match l.mode with
  | .xapic | .x2apic => true
  | .disabled | .globallyDisabled => false

/-- The indices of the LAPICs that satisfy a test, ascending. -/
def State.lapicsWith (s : State) (p : Nat → Lapic → Bool) : List Nat :=
  (List.range s.cpus.length).filter fun i =>
    match s.lapicAt i with
    | some l => p i l
    | none   => false

/-- `IDMASK8` (R43). -/
def idMask8 (cfg : Config) : BitVec 32 :=
  if cfg.xapic then 0xFF#32 else 0x0F#32

/-- R381: `match_logical_addr(i, addr)`, on the target's own state. -/
def Lapic.matchLogical (addr : BitVec 32) (l : Lapic) : Bool :=
  match l.mode with
  | .x2apic =>
    addr = 0xFFFFFFFF#32 ||
      (addr &&& 0xFFFF0000#32 = l.ldr &&& 0xFFFF0000#32 && addr &&& l.ldr &&& 0x0000FFFF#32 ≠ 0#32)
  | _ =>
    let a := addr.setWidth 8
    let d := l.ldr.setWidth 8
    if l.destFormat = 0xF#4 then a &&& d ≠ 0#8
    else if l.destFormat = 0x0#4 then
      a = 0xFF#8 || (a &&& 0xF0#8 = d &&& 0xF0#8 && a &&& d &&& 0x0F#8 ≠ 0#8)
    else false

/-- `LAPIC[i].deliver(vec, dm, trig)` (R376). -/
def State.deliver (s : State) (dm : BitVec 3) (vec : BitVec 8) (trig : Trigger) (i : Nat) : State :=
  s.onLapic i (Lapic.deliver s.cfg dm vec trig)

/-- One delivery after another, in the order given (R360: ascending CPU index). -/
def State.deliverAll (s : State) (dm : BitVec 3) (vec : BitVec 8) (trig : Trigger) (targets : List Nat) : State :=
  targets.foldl (fun s i => s.deliver dm vec trig i) s

/-- R380: the priority register compared by lowest-priority arbitration. -/
def Lapic.arbitration (cfg : Config) (l : Lapic) : BitVec 8 :=
  if cfg.xapic then l.taskPriority else l.apr cfg

/-- R380: one step of the linear scan, which keeps the first minimum found. -/
def State.betterOf (s : State) (best : Option (Nat × BitVec 8)) (i : Nat) : Option (Nat × BitVec 8) :=
  match s.lapicAt i with
  | none => best
  | some l =>
    match best with
    | none => some (i, l.arbitration s.cfg)
    | some (j, p) => if (l.arbitration s.cfg).toNat < p.toNat then some (i, l.arbitration s.cfg) else some (j, p)

/-- R380: the candidate that takes a lowest-priority interrupt (`LOWPRI_TIEBREAK = first_found`). -/
def State.lowestPriority (s : State) (candidates : List Nat) : Option Nat :=
  (candidates.foldl s.betterOf none).map Prod.fst

/-- R380: `deliver_lowest_priority(candidates, vec, trig)`, and whether it was accepted. -/
def State.deliverLowest (s : State) (candidates : List Nat) (vec : BitVec 8) (trig : Trigger) : Bool × State :=
  match s.lowestPriority candidates with
  | none => (false, s)
  | some i => (true, s.deliver 1#3 vec trig i)

/-- R382: `bus_broadcast(dm, trig, vec, exclude)`. -/
def State.busBroadcast (s : State) (dm : BitVec 3) (trig : Trigger) (vec : BitVec 8) (exclude : Option Nat) :
    Bool × State :=
  let targets := s.lapicsWith fun i l => l.isLive && decide (exclude ≠ some i)
  if dm = 1#3 then s.deliverLowest targets vec trig
  else (true, s.deliverAll dm vec trig targets)

/-- R378: whether a physical destination is the broadcast identifier; `x2` says that the sender is in X2APIC mode. -/
def isBroadcast (cfg : Config) (x2 : Bool) (dest : BitVec 32) : Bool :=
  if x2 then dest = 0xFFFFFFFF#32 else dest &&& idMask8 cfg = idMask8 cfg

/-- R378: `deliver_physical`: the first live LAPIC with the identifier takes the message. -/
def State.deliverPhysical (s : State) (x2 : Bool) (dest : BitVec 32) (dm : BitVec 3) (trig : Trigger) (vec : BitVec 8) :
    Bool × State :=
  if isBroadcast s.cfg x2 dest then s.busBroadcast dm trig vec none
  else
    match s.lapicsWith fun _ l => l.isLive && decide (l.apicId = dest) with
    | [] => (false, s)
    | i :: _ => (true, s.deliver dm vec trig i)

/-- The live LAPICs a logical destination matches (R379, R381, R383). -/
def State.logicalTargets (s : State) (dest : BitVec 32) : List Nat :=
  s.lapicsWith fun _ l => l.isLive && l.matchLogical dest

/-- R379: `deliver_logical`: every matching LAPIC receives the message. -/
def State.deliverLogical (s : State) (dest : BitVec 32) (dm : BitVec 3) (trig : Trigger) (vec : BitVec 8) :
    Bool × State :=
  if dest = 0#32 then (false, s)
  else (!(s.logicalTargets dest).isEmpty, s.deliverAll dm vec trig (s.logicalTargets dest))

/-- R377: `bus_deliver`, and whether the message was accepted. `x2` says that the sender is a LAPIC in X2APIC mode. -/
def State.busDeliver (s : State) (x2 : Bool) (dest : BitVec 32) (dm : BitVec 3) (logical : Bool) (trig : Trigger)
    (vec : BitVec 8) : Bool × State :=
  if dm = 1#3 then
    if logical then s.deliverLowest (s.logicalTargets dest) vec trig else (false, s)
  else if logical then s.deliverLogical dest dm trig vec
  else s.deliverPhysical x2 dest dm trig vec

/-- R375: the routing of a command `lo` of the LAPIC in focus by its destination shorthand. -/
def State.route (s : State) (dest lo : BitVec 32) : Bool × State :=
  let trig := if lo.getLsbD 15 then Trigger.level else Trigger.edge
  let dm := lo.extractLsb' 8 3
  let vec := lo.setWidth 8
  match (lo.extractLsb' 18 2).toNat with
  | 0 => s.busDeliver (decide (s.cpu.lapic.mode = .x2apic)) dest dm (lo.getLsbD 11) trig vec
  | 1 => (true, s.putLapic (s.cpu.lapic.triggerIrq s.cfg vec trig false))
  | 2 => s.busBroadcast dm trig vec none
  | _ => s.busBroadcast dm trig vec (some s.focus)

/-- R375: `send_ipi(dest, lo)` of the LAPIC in focus. -/
def State.sendIpi (s : State) (dest lo : BitVec 32) : State :=
  if lo.extractLsb' 8 3 = 5#3 ∧ lo.getLsbD 14 = false ∧ lo.getLsbD 15 = true then s
  else
    let r := s.route dest lo
    if r.1 then r.2 else r.2.putLapic (r.2.cpu.lapic.recordError 0x04#32, [])

end Sys2Proof.Machine
end

