-- ==== Sys2Proof/Machine/ApicRegs.lean ====
section
/-! DEFINITION. The register map of the LAPIC and its two views (spec/10_state.md R42 to R67, spec/60_exceptions.md R390,
R420 to R435). All operations act on the LAPIC in focus, the one of the CPU that makes the access (R90, R430). -/

namespace Sys2Proof.Machine

/-- The registers of R42. -/
inductive ApicReg where
  | id | version | tpr | apr | ppr | eoi | ldr | dfr | svr
  | isr (n : Nat) | tmr (n : Nat) | irr (n : Nat)
  | esr
  /-- 1 thermal, 2 perfmon, 3 LINT0, 4 LINT1, 5 error, 6 CMCI -/
  | lvt (i : Nat)
  | lvtTimer | icrLo | icrHi | timerInitial | timerCurrent | timerDivide
  | selfIpi | extFeature | extControl | seoi
  | ier (n : Nat)
  | undefined
deriving DecidableEq, Repr

/-- R42, R125, R126: the register in 16-byte slot `slot` (offset `16 * slot`, MSR `0x800 + slot`). -/
def apicReg (slot : BitVec 8) : ApicReg :=
  let n := slot.toNat
  if 0x10 ≤ n ∧ n < 0x18 then .isr (n - 0x10)
  else if 0x18 ≤ n ∧ n < 0x20 then .tmr (n - 0x18)
  else if 0x20 ≤ n ∧ n < 0x28 then .irr (n - 0x20)
  else if 0x33 ≤ n ∧ n < 0x38 then .lvt (n - 0x32)
  else if 0x48 ≤ n ∧ n < 0x50 then .ier (n - 0x48)
  else if n = 0x02 then .id
  else if n = 0x03 then .version
  else if n = 0x08 then .tpr
  else if n = 0x09 then .apr
  else if n = 0x0A then .ppr
  else if n = 0x0B then .eoi
  else if n = 0x0D then .ldr
  else if n = 0x0E then .dfr
  else if n = 0x0F then .svr
  else if n = 0x28 then .esr
  else if n = 0x2F then .lvt 6
  else if n = 0x30 then .icrLo
  else if n = 0x31 then .icrHi
  else if n = 0x32 then .lvtTimer
  else if n = 0x38 then .timerInitial
  else if n = 0x39 then .timerCurrent
  else if n = 0x3E then .timerDivide
  else if n = 0x3F then .selfIpi
  else if n = 0x40 then .extFeature
  else if n = 0x41 then .extControl
  else if n = 0x42 then .seoi
  else .undefined

/-- LVT entry `i` (R30). -/
def Lapic.lvtEntry (l : Lapic) (i : Nat) : BitVec 32 :=
  l.lvt[i % 7]'(Nat.mod_lt _ (by decide))

/-- R57 to R59: the writable bits of LVT entry `i`, other than the timer's. -/
def lvtMask (i : Nat) : BitVec 32 :=
  if i = 3 ∨ i = 4 then 0x0001A7FF#32
  else if i = 5 then 0x000100FF#32
  else 0x000107FF#32

/-- R390: write of LVT entry `i` in 1..6. -/
def Lapic.writeLvt (i : Nat) (value : BitVec 32) (l : Lapic) : Lapic :=
  { l with lvt := l.lvt.set (i % 7) (value &&& lvtMask i) (Nat.mod_lt _ (by decide)) }

/-- R51: what the SVR reads. -/
def Lapic.svr (l : Lapic) : BitVec 32 :=
  l.spuriousVector.setWidth 32 ||| (BitVec.ofBool l.softwareEnabled).setWidth 32 <<< 8 |||
    (BitVec.ofBool l.focusDisable).setWidth 32 <<< 9

/-- R423: SVR write. -/
def Lapic.writeSvr (cfg : Config) (value : BitVec 32) (l : Lapic) : Lapic :=
  { l with
      spuriousVector  := if cfg.xapic then value.setWidth 8 else value.setWidth 8 ||| 0x0F#8
      softwareEnabled := value.getLsbD 8
      focusDisable    := value.getLsbD 9 }

/-- R424: ESR write. -/
def Lapic.writeEsr (l : Lapic) : Lapic :=
  { l with errorStatus := l.shadowErrorStatus, shadowErrorStatus := 0#32 }

/-- A read that changes nothing. -/
def plainRead (l : Lapic) (v : BitVec 32) : Except Invariant (BitVec 32 × LapicEff) :=
  .ok (v, (l, []))

/-- R421, R422: an access to an undefined slot of the window records an illegal register address and gives 0. -/
def Lapic.illegalAddress (l : Lapic) : BitVec 32 × LapicEff :=
  (0#32, (l.recordError 0x80#32, []))

/-- R422, R429: `mmio_read(16 * slot, 4)`. -/
def Lapic.mmioRead (cfg : Config) (now : Word) (slot : BitVec 8) (l : Lapic) : Except Invariant (BitVec 32 × LapicEff) :=
  match apicReg slot with
  | .id           => plainRead l ((l.apicId &&& idMask8 cfg) <<< 24)
  | .version      => plainRead l cfg.apicVersion
  | .tpr          => plainRead l (l.taskPriority.setWidth 32)
  | .apr          => plainRead l ((l.apr cfg).setWidth 32)
  | .ppr          => plainRead l ((l.ppr cfg).setWidth 32)
  | .eoi          => plainRead l 0#32
  | .ldr          => plainRead l ((l.ldr &&& idMask8 cfg) <<< 24)
  | .dfr          => plainRead l (l.destFormat.setWidth 32 <<< 28 ||| 0x0FFFFFFF#32)
  | .svr          => plainRead l l.svr
  | .isr n        => plainRead l (bmWord l.isr n)
  | .tmr n        => plainRead l (bmWord l.tmr n)
  | .irr n        => plainRead l (bmWord l.irr n)
  | .esr          => plainRead l l.errorStatus
  | .lvt i        => plainRead l (l.lvtEntry i)
  | .lvtTimer     => plainRead l (l.lvtEntry 0)
  | .icrLo        => plainRead l l.icrLo
  | .icrHi        => plainRead l l.icrHi
  | .timerInitial => plainRead l l.timerInitial
  | .timerCurrent => l.currentCount cfg now
  | .timerDivide  => plainRead l (l.timerDivconf.setWidth 32)
  | .selfIpi      => .ok l.illegalAddress
  | .extFeature   => if cfg.xapicExtSupported then plainRead l cfg.extFeatureValue else .ok l.illegalAddress
  | .extControl   => if cfg.xapicExtSupported then plainRead l l.xapicExt else .ok l.illegalAddress
  | .seoi         => if cfg.xapicExtSupported then plainRead l 0#32 else .ok l.illegalAddress
  | .ier n        => if cfg.xapicExtSupported then plainRead l (bmWord l.ier n) else .ok l.illegalAddress
  | .undefined    => .ok l.illegalAddress

/-- The machine after an operation on the LAPIC in focus. -/
def State.putChecked (s : State) (r : Except Invariant LapicEff) : Except Invariant State :=
  match r with
  | .ok e    => .ok (s.putLapic e)
  | .error i => .error i

/-- The machine after an operation on the LAPIC in focus that makes no call. -/
def State.putQuiet (s : State) (l : Lapic) : Except Invariant State :=
  .ok (s.putLapic (l, []))

/-- R425: ICR_LO write: store, then send to the destination in ICR_HI. -/
def State.writeIcrLo (s : State) (value : BitVec 32) : State :=
  let lo := value &&& ~~~ 0x00001000#32
  let s := s.putLapic ({ s.cpu.lapic with icrLo := lo }, [])
  s.sendIpi (s.cpu.lapic.icrHi >>> 24) lo

/-- R421, R429: `mmio_write(16 * slot, 4, value)` on the LAPIC in focus. -/
def State.mmioWrite (s : State) (slot : BitVec 8) (value : BitVec 32) : Except Invariant State :=
  let l := s.cpu.lapic
  let illegal := s.putLapic l.illegalAddress.2
  match apicReg slot with
  | .id | .version | .apr | .ppr | .isr _ | .tmr _ | .irr _ | .timerCurrent => .ok s
  | .tpr          => .ok (s.putLapic (l.setTpr s.cfg (value.setWidth 8)))
  | .eoi          => s.putChecked (l.receiveEoi s.cfg)
  | .ldr          => s.putQuiet { l with ldr := value >>> 24 &&& idMask8 s.cfg }
  | .dfr          => s.putQuiet { l with destFormat := value.extractLsb' 28 4 }
  | .svr          => s.putQuiet (l.writeSvr s.cfg value)
  | .esr          => s.putQuiet l.writeEsr
  | .lvt i        => s.putQuiet (l.writeLvt i value)
  | .lvtTimer     => s.putQuiet (l.writeLvtTimer s.cfg value)
  | .icrLo        => .ok (s.writeIcrLo value)
  | .icrHi        => s.putQuiet { l with icrHi := value &&& 0xFF000000#32 }
  | .timerInitial => s.putQuiet (l.setInitialCount s.now value)
  | .timerDivide  => s.putQuiet (l.setDivide value)
  | .selfIpi      => .ok illegal
  | .extFeature   => if s.cfg.xapicExtSupported then .ok s else .ok illegal
  | .extControl   =>
    if s.cfg.xapicExtSupported then s.putQuiet { l with xapicExt := value &&& 0x3#32 } else .ok illegal
  | .seoi         =>
    if s.cfg.xapicExtSupported then
      if l.xapicExt.getLsbD 1 then .ok (s.putLapic (l.receiveSeoi s.cfg (value.setWidth 8))) else .ok s
    else .ok illegal
  | .ier n        =>
    if s.cfg.xapicExtSupported then
      if l.xapicExt.getLsbD 0 then s.putQuiet { l with ier := bmSetWord l.ier n value } else .ok s
    else .ok illegal
  | .undefined    => .ok illegal

/-- R430, R431: `read_x2apic` of MSR `0x800 + slot`: the value, or none for a failure. -/
def Lapic.x2apicRead (cfg : Config) (now : Word) (slot : BitVec 8) (l : Lapic) :
    Except Invariant (Option Word × LapicEff) :=
  let failure : Except Invariant (Option Word × LapicEff) := .ok (none, (l, []))
  if l.mode ≠ .x2apic then failure
  else
    match apicReg slot with
    | .id    => .ok (some (l.apicId.setWidth 64), (l, []))
    | .ldr   => .ok (some (l.ldr.setWidth 64), (l, []))
    | .icrLo => .ok (some (l.icrHi ++ l.icrLo), (l, []))
    | .apr | .eoi | .dfr | .icrHi | .selfIpi | .extFeature | .extControl | .seoi | .ier _ | .undefined => failure
    | _ =>
      match l.mmioRead cfg now slot with
      | .ok r    => .ok (some (r.1.setWidth 64), r.2)
      | .error i => .error i

/-- A successful MSR write. -/
def msrDone (r : Except Invariant State) : Except Invariant (Bool × State) :=
  match r with
  | .ok s    => .ok (true, s)
  | .error i => .error i

/-- R432: whether the upper half of the value is free for this register. -/
def ApicReg.takesHi : ApicReg → Bool
  | .id | .ldr | .icrLo => true
  | _ => false

/-- R432: the bits of `lo` that a write of the register rejects when set. -/
def ApicReg.rejects : ApicReg → BitVec 32
  | .tpr     => 0xFFFFFF00#32
  | .eoi     => 0xFFFFFFFF#32
  | .svr     => 0xFFFFEE00#32
  | .esr     => 0xFFFFFFFF#32
  | .selfIpi => 0xFFFFFF00#32
  | _        => 0#32

/-- R432: ICR write in the MSR view, one 64-bit store and a send. -/
def State.writeIcr (s : State) (hi lo : BitVec 32) : State :=
  let lo := lo &&& ~~~ 0x00001000#32
  (s.putLapic ({ s.cpu.lapic with icrHi := hi, icrLo := lo }, [])).sendIpi hi lo

/-- R430, R432, R433: `write_x2apic` of MSR `0x800 + slot` on the LAPIC in focus, and whether it succeeded. -/
def State.x2apicWrite (s : State) (slot : BitVec 8) (hi lo : BitVec 32) : Except Invariant (Bool × State) :=
  let l := s.cpu.lapic
  let reg := apicReg slot
  if l.mode ≠ .x2apic ∨ (hi ≠ 0#32 ∧ reg.takesHi = false) ∨ lo &&& reg.rejects ≠ 0#32 then .ok (false, s)
  else
    match reg with
    | .id           => msrDone (s.putQuiet { l with apicId := lo })
    | .ldr          => msrDone (s.putQuiet { l with ldr := lo })
    | .tpr          => .ok (true, s.putLapic (l.setTpr s.cfg (lo.setWidth 8)))
    | .eoi          => msrDone (s.putChecked (l.receiveEoi s.cfg))
    | .svr          => msrDone (s.putQuiet (l.writeSvr s.cfg lo))
    | .esr          => msrDone (s.putQuiet l.writeEsr)
    | .icrLo        => .ok (true, s.writeIcr hi lo)
    | .selfIpi      => .ok (true, s.putLapic (l.triggerIrq s.cfg (lo.setWidth 8) .edge false))
    | .lvt i        => msrDone (s.putQuiet (l.writeLvt i lo))
    | .lvtTimer     => msrDone (s.putQuiet (l.writeLvtTimer s.cfg lo))
    | .timerInitial => msrDone (s.putQuiet (l.setInitialCount s.now lo))
    | .timerDivide  => msrDone (s.putQuiet (l.setDivide lo))
    | .version | .apr | .ppr | .dfr | .isr _ | .tmr _ | .irr _ | .icrHi | .timerCurrent | .extFeature | .extControl
    | .seoi | .ier _ | .undefined => .ok (false, s)

end Sys2Proof.Machine
end

