-- ==== Sys2Proof/Machine/Rom.lean ====
section
/-! DEFINITION. The handler ROM: the operand roles and the feature of every handler (spec/30_encoding.md R112 to R118),
well-formedness of a descriptor (R120) and feature gating (R121). -/

namespace Sys2Proof

/-- What a register field of the descriptor indexes (R112). -/
inductive RegKind where
  | unused | gpr | vreg | kreg
deriving DecidableEq, Repr

/-- The field a memory-capable operand stands in (R116). -/
inductive Field where
  | dst | src1 | src2
deriving DecidableEq, Repr

/-- How a handler uses `memform` (R116). -/
inductive MemUse where
  /-- "memform not allowed" -/
  | never
  /-- "memform required" -/
  | always
  /-- the operand that may be in memory -/
  | operand (f : Field)
deriving DecidableEq, Repr

/-- How a handler uses `imm` (R115). -/
inductive ImmUse where
  /-- no immediate: the field is 0 -/
  | absent
  /-- an 8-bit immediate: `imm[31:8]` is 0 -/
  | byte
  /-- the 32-bit control of the TBM form of BEXTR -/
  | control
deriving DecidableEq, Repr

/-- How a handler uses `opmask` and `zmask` (R114). -/
inductive MaskUse where
  /-- both fields are 0 -/
  | absent
  /-- `opmask` is read, `zmask` is 0: the destination is memory or an opmask register -/
  | mergeOnly
  /-- both fields are read, and `zmask` is 0 when the destination is in memory -/
  | mergeOnlyInMemory
  /-- both fields are read -/
  | full
deriving DecidableEq, Repr

/-- The operand roles of a handler: the constraints R112 to R116 put on its descriptors. -/
structure Shape where
  dst   : RegKind
  src1  : RegKind
  src2  : RegKind
  src3  : RegKind
  mem   : MemUse
  /-- the greatest legal `vl` (R113) -/
  vlMax : Nat
  imm   : ImmUse
  mask  : MaskUse
deriving DecidableEq, Repr

/-- What R118 says a handler needs of `FEATURES`. -/
inductive FeatureNeed where
  /-- ILLEGAL needs nothing -/
  | nothing
  | family (f : Feature)
  /-- class V: AVX, and AVX512 when `vl = 2` or `opmask != 0` (R121) -/
  | avxFamily
deriving DecidableEq, Repr

/-- R112: the values a register field may hold. -/
def RegKind.admits (k : RegKind) (r : BitVec 5) : Bool :=
  match k with
  | .unused => r == 0#5
  | .gpr    => r.toNat < 16
  | .vreg   => true
  | .kreg   => r.toNat < 8

/-- R112, with the clause for an operand that is in memory: its register field holds 0. -/
def fieldOk (k : RegKind) (inMemory : Bool) (r : BitVec 5) : Bool :=
  if inMemory then r == 0#5 else k.admits r

/-- R116: the legal values of `memform`. -/
def MemUse.admits (m : MemUse) (memform : Bool) : Bool :=
  match m with
  | .never     => !memform
  | .always    => memform
  | .operand _ => true

/-- Whether the operand in field `f` is in memory. -/
def MemUse.takes (m : MemUse) (f : Field) (memform : Bool) : Bool :=
  match m with
  | .operand g => memform && decide (g = f)
  | _          => false

/-- R115: the legal immediates. -/
def ImmUse.admits (u : ImmUse) (imm : BitVec 32) : Bool :=
  match u with
  | .absent  => imm == 0#32
  | .byte    => imm.extractLsb' 8 24 == 0#24
  | .control => true

/-- R114: the legal masking fields. -/
def MaskUse.admits (u : MaskUse) (d : Desc) : Bool :=
  match u with
  | .absent            => d.opmask == 0#3 && !d.zmask
  | .mergeOnly         => !d.zmask
  | .mergeOnlyInMemory => !(d.memform && d.zmask)
  | .full              => true

/-- R120: the first clause a descriptor breaks for a handler of this shape. -/
def Shape.malformed? (sh : Shape) (d : Desc) : Option Malformed :=
  if d.rsvd ≠ 0#7 then some .reserved
  else if d.ilen = 0#4 then some .ilen
  else if sh.vlMax < d.vl.toNat then some .vl
  else if !sh.mem.admits d.memform then some .memform
  else if !sh.mask.admits d then some .mask
  else if !sh.imm.admits d.imm then some .imm
  else if !fieldOk sh.dst (sh.mem.takes .dst d.memform) d.dst then some .dst
  else if !fieldOk sh.src1 (sh.mem.takes .src1 d.memform) d.src1 then some .src1
  else if !fieldOk sh.src2 (sh.mem.takes .src2 d.memform) d.src2 then some .src2
  else if !fieldOk sh.src3 false d.src3 then some .src3
  else none

/-- BT, BTS, BTR, BTC with a register bit offset (R199). -/
def Shape.bitTestReg : Shape :=
  ⟨.gpr, .gpr, .unused, .unused, .operand .dst, 0, .absent, .absent⟩

/-- BT, BTS, BTR, BTC with an immediate bit offset (R199). -/
def Shape.bitTestImm : Shape :=
  ⟨.gpr, .unused, .unused, .unused, .operand .dst, 0, .byte, .absent⟩

/-- `OP r, r/m` (R199, R223, R240). -/
def Shape.gprUnary : Shape :=
  ⟨.gpr, .gpr, .unused, .unused, .operand .src1, 0, .absent, .absent⟩

/-- `RORX r, r/m, imm8` (R219). -/
def Shape.gprUnaryByte : Shape :=
  ⟨.gpr, .gpr, .unused, .unused, .operand .src1, 0, .byte, .absent⟩

/-- `BEXTR r, r/m, imm32` (R230). -/
def Shape.gprUnaryControl : Shape :=
  ⟨.gpr, .gpr, .unused, .unused, .operand .src1, 0, .control, .absent⟩

/-- `OP r, r/m, r` (R211, R215, R220 to R222). -/
def Shape.gprValueFirst : Shape :=
  ⟨.gpr, .gpr, .gpr, .unused, .operand .src1, 0, .absent, .absent⟩

/-- `OP r, r, r/m` (R210, R216 to R218). -/
def Shape.gprValueSecond : Shape :=
  ⟨.gpr, .gpr, .gpr, .unused, .operand .src2, 0, .absent, .absent⟩

/-- `OP xmm1, xmm2/m128` (R245, R279). -/
def Shape.sseBinary : Shape :=
  ⟨.vreg, .unused, .vreg, .unused, .operand .src2, 0, .absent, .absent⟩

/-- `OP xmm1, imm8` (R262 to R264). -/
def Shape.sseShift : Shape :=
  ⟨.vreg, .unused, .unused, .unused, .never, 0, .byte, .absent⟩

/-- `PSHUFD xmm1, xmm2/m128, imm8` (R268). -/
def Shape.sseShuffle : Shape :=
  ⟨.vreg, .unused, .vreg, .unused, .operand .src2, 0, .byte, .absent⟩

/-- `MOVDQU m128, xmm1` (R279). -/
def Shape.sseStore : Shape :=
  ⟨.unused, .unused, .vreg, .unused, .always, 0, .absent, .absent⟩

/-- `OP v1 (k, z), v2, v3/m` (R246, R294). -/
def Shape.vecBinary : Shape :=
  ⟨.vreg, .vreg, .vreg, .unused, .operand .src2, 2, .absent, .full⟩

/-- `OP v1, v2, v3/m`, no masked form (R114, R256, R257). -/
def Shape.vecCompare : Shape :=
  ⟨.vreg, .vreg, .vreg, .unused, .operand .src2, 2, .absent, .absent⟩

/-- `OP v1 (k, z), v2/m, imm8` (R262 to R264, R268). -/
def Shape.vecUnaryByte : Shape :=
  ⟨.vreg, .unused, .vreg, .unused, .operand .src2, 2, .byte, .full⟩

/-- `OP v1 (k, z), v2/m`: VMOVDQU loads (R279) and VPEXPAND (R293). -/
def Shape.vecUnary : Shape :=
  ⟨.vreg, .unused, .vreg, .unused, .operand .src2, 2, .absent, .full⟩

/-- `VMOVDQU m (k), v1` (R279). -/
def Shape.vecStore : Shape :=
  ⟨.unused, .unused, .vreg, .unused, .always, 2, .absent, .mergeOnly⟩

/-- `OP k1 (k2), v2, v3/m, imm8` (R290, R291). -/
def Shape.maskCompare : Shape :=
  ⟨.kreg, .vreg, .vreg, .unused, .operand .src2, 2, .byte, .mergeOnly⟩

/-- `VPCOMPRESS v1/m (k, z), v2` (R292). -/
def Shape.compress : Shape :=
  ⟨.vreg, .unused, .vreg, .unused, .operand .dst, 2, .absent, .mergeOnlyInMemory⟩

/-- `VALIGN v1 (k, z), v2, v3/m, imm8` (R295). -/
def Shape.vecBinaryByte : Shape :=
  ⟨.vreg, .vreg, .vreg, .unused, .operand .src2, 2, .byte, .full⟩

/-- `KMOV k1, r` (R296). -/
def Shape.kmovToMask : Shape :=
  ⟨.kreg, .gpr, .unused, .unused, .never, 0, .absent, .absent⟩

/-- `KMOV r, k1` (R296). -/
def Shape.kmovToGpr : Shape :=
  ⟨.gpr, .kreg, .unused, .unused, .never, 0, .absent, .absent⟩

/-- `VPCOM xmm1, xmm2, xmm3/m128, imm8` (R321, R322). -/
def Shape.xopCompare : Shape :=
  ⟨.vreg, .vreg, .vreg, .unused, .operand .src2, 0, .byte, .absent⟩

/-- `OP xmm1, xmm2, xmm3/m128, xmm4` (R320). -/
def Shape.xopTernary : Shape :=
  ⟨.vreg, .vreg, .vreg, .vreg, .operand .src2, 0, .absent, .absent⟩

/-- `VPCMOV v1, v2, v3/m, v4` at 128 or 256 bits (R324). -/
def Shape.xopCmov : Shape :=
  ⟨.vreg, .vreg, .vreg, .vreg, .operand .src2, 1, .absent, .absent⟩

/-- The operand roles of every handler (R118, the `fields` of opcode_table.json). ILLEGAL has none: R119 raises
`InvalidOpcode` whatever its other fields hold. -/
def Instr.shape : Instr → Option Shape
  | .illegal _ => none
  | .bt16G _ | .bt32G _ | .bt64G _ | .bts16G _ | .bts32G _ | .bts64G _
  | .btr16G _ | .btr32G _ | .btr64G _ | .btc16G _ | .btc32G _ | .btc64G _ =>
    some Shape.bitTestReg
  | .bt16I _ | .bt32I _ | .bt64I _ | .bts16I _ | .bts32I _ | .bts64I _
  | .btr16I _ | .btr32I _ | .btr64I _ | .btc16I _ | .btc32I _ | .btc64I _ =>
    some Shape.bitTestImm
  | .bsf16 _ | .bsf32 _ | .bsf64 _ | .bsr16 _ | .bsr32 _ | .bsr64 _
  | .popcnt16 _ | .popcnt32 _ | .popcnt64 _ | .tzcnt16 _ | .tzcnt32 _ | .tzcnt64 _
  | .lzcnt16 _ | .lzcnt32 _ | .lzcnt64 _ | .blsi32 _ | .blsi64 _ | .blsmsk32 _
  | .blsmsk64 _ | .blsr32 _ | .blsr64 _ | .blcfill32 _ | .blcfill64 _ | .blci32 _
  | .blci64 _ | .blcic32 _ | .blcic64 _ | .blcmsk32 _ | .blcmsk64 _ | .blcs32 _
  | .blcs64 _ | .blsfill32 _ | .blsfill64 _ | .blsic32 _ | .blsic64 _ | .t1mskc32 _
  | .t1mskc64 _ | .tzmsk32 _ | .tzmsk64 _ =>
    some Shape.gprUnary
  | .andn32 _ | .andn64 _ | .mulx32 _ | .mulx64 _ | .pdep32 _ | .pdep64 _
  | .pext32 _ | .pext64 _ =>
    some Shape.gprValueSecond
  | .bextr32 _ | .bextr64 _ | .bzhi32 _ | .bzhi64 _ | .sarx32 _ | .sarx64 _
  | .shlx32 _ | .shlx64 _ | .shrx32 _ | .shrx64 _ =>
    some Shape.gprValueFirst
  | .rorx32 _ | .rorx64 _ =>
    some Shape.gprUnaryByte
  | .bextri32 _ | .bextri64 _ =>
    some Shape.gprUnaryControl
  | .paddb _ | .paddw _ | .paddd _ | .paddq _ | .psubb _ | .psubw _
  | .psubd _ | .psubq _ | .pand _ | .pandn _ | .por _ | .pxor _
  | .pcmpeqb _ | .pcmpeqw _ | .pcmpeqd _ | .pcmpeqq _ | .pcmpgtb _ | .pcmpgtw _
  | .pcmpgtd _ | .pcmpgtq _ | .pminsb _ | .pminsw _ | .pminsd _ | .pminub _
  | .pminuw _ | .pminud _ | .pmaxsb _ | .pmaxsw _ | .pmaxsd _ | .pmaxub _
  | .pmaxuw _ | .pmaxud _ | .pshufb _ | .movdquLd _ =>
    some Shape.sseBinary
  | .psllwI _ | .pslldI _ | .psllqI _ | .psrlwI _ | .psrldI _ | .psrlqI _
  | .psrawI _ | .psradI _ =>
    some Shape.sseShift
  | .pshufd _ =>
    some Shape.sseShuffle
  | .movdquSt _ =>
    some Shape.sseStore
  | .vpaddb _ | .vpaddw _ | .vpaddd _ | .vpaddq _ | .vpsubb _ | .vpsubw _
  | .vpsubd _ | .vpsubq _ | .vpandd _ | .vpandq _ | .vpandnd _ | .vpandnq _
  | .vpord _ | .vporq _ | .vpxord _ | .vpxorq _ | .vpminsb _ | .vpminsw _
  | .vpminsd _ | .vpminsq _ | .vpminub _ | .vpminuw _ | .vpminud _ | .vpminuq _
  | .vpmaxsb _ | .vpmaxsw _ | .vpmaxsd _ | .vpmaxsq _ | .vpmaxub _ | .vpmaxuw _
  | .vpmaxud _ | .vpmaxuq _ | .vpsllvw _ | .vpsllvd _ | .vpsllvq _ | .vpsrlvw _
  | .vpsrlvd _ | .vpsrlvq _ | .vpsravw _ | .vpsravd _ | .vpsravq _ | .vpshufb _
  | .vpermb _ | .vpermw _ | .vpermd _ | .vpermq _ =>
    some Shape.vecBinary
  | .vpcmpeqb _ | .vpcmpeqw _ | .vpcmpeqd _ | .vpcmpeqq _ | .vpcmpgtb _ | .vpcmpgtw _
  | .vpcmpgtd _ | .vpcmpgtq _ =>
    some Shape.vecCompare
  | .vpsllwI _ | .vpslldI _ | .vpsllqI _ | .vpsrlwI _ | .vpsrldI _ | .vpsrlqI _
  | .vpsrawI _ | .vpsradI _ | .vpsraqI _ | .vpshufd _ =>
    some Shape.vecUnaryByte
  | .vmovdqu8Ld _ | .vmovdqu16Ld _ | .vmovdqu32Ld _ | .vmovdqu64Ld _ | .vpexpandb _ | .vpexpandw _
  | .vpexpandd _ | .vpexpandq _ =>
    some Shape.vecUnary
  | .vmovdqu8St _ | .vmovdqu16St _ | .vmovdqu32St _ | .vmovdqu64St _ =>
    some Shape.vecStore
  | .vpcmpb _ | .vpcmpw _ | .vpcmpd _ | .vpcmpq _ | .vpcmpub _ | .vpcmpuw _
  | .vpcmpud _ | .vpcmpuq _ =>
    some Shape.maskCompare
  | .vpcompressb _ | .vpcompressw _ | .vpcompressd _ | .vpcompressq _ =>
    some Shape.compress
  | .valignd _ | .valignq _ =>
    some Shape.vecBinaryByte
  | .kmovbKg _ | .kmovwKg _ | .kmovdKg _ | .kmovqKg _ =>
    some Shape.kmovToMask
  | .kmovbGk _ | .kmovwGk _ | .kmovdGk _ | .kmovqGk _ =>
    some Shape.kmovToGpr
  | .vpcomb _ | .vpcomw _ | .vpcomd _ | .vpcomq _ | .vpcomub _ | .vpcomuw _
  | .vpcomud _ | .vpcomuq _ =>
    some Shape.xopCompare
  | .vpperm _ | .vpmacssww _ | .vpmacsww _ | .vpmacsswd _ | .vpmacswd _ | .vpmacssdd _
  | .vpmacsdd _ | .vpmacssdql _ | .vpmacsdql _ | .vpmacssdqh _ | .vpmacsdqh _ | .vpmadcsswd _
  | .vpmadcswd _ =>
    some Shape.xopTernary
  | .vpcmov _ =>
    some Shape.xopCmov

/-- The `FEATURES` member of every handler (R118). The handlers 0x180 to 0x19D need AVX512 alone (R118, R297; DEDUCED,
log 11). -/
def Instr.featureNeed : Instr → FeatureNeed
  | .illegal _ => .nothing
  | .bt16G _ | .bt16I _ | .bt32G _ | .bt32I _ | .bt64G _ | .bt64I _
  | .bts16G _ | .bts16I _ | .bts32G _ | .bts32I _ | .bts64G _ | .bts64I _
  | .btr16G _ | .btr16I _ | .btr32G _ | .btr32I _ | .btr64G _ | .btr64I _
  | .btc16G _ | .btc16I _ | .btc32G _ | .btc32I _ | .btc64G _ | .btc64I _
  | .bsf16 _ | .bsf32 _ | .bsf64 _ | .bsr16 _ | .bsr32 _ | .bsr64 _ =>
    .family .bitops
  | .popcnt16 _ | .popcnt32 _ | .popcnt64 _ =>
    .family .popcnt
  | .tzcnt16 _ | .tzcnt32 _ | .tzcnt64 _ | .andn32 _ | .andn64 _ | .bextr32 _
  | .bextr64 _ | .blsi32 _ | .blsi64 _ | .blsmsk32 _ | .blsmsk64 _ | .blsr32 _
  | .blsr64 _ =>
    .family .bmi1
  | .lzcnt16 _ | .lzcnt32 _ | .lzcnt64 _ =>
    .family .lzcnt
  | .bzhi32 _ | .bzhi64 _ | .mulx32 _ | .mulx64 _ | .pdep32 _ | .pdep64 _
  | .pext32 _ | .pext64 _ | .rorx32 _ | .rorx64 _ | .sarx32 _ | .sarx64 _
  | .shlx32 _ | .shlx64 _ | .shrx32 _ | .shrx64 _ =>
    .family .bmi2
  | .bextri32 _ | .bextri64 _ | .blcfill32 _ | .blcfill64 _ | .blci32 _ | .blci64 _
  | .blcic32 _ | .blcic64 _ | .blcmsk32 _ | .blcmsk64 _ | .blcs32 _ | .blcs64 _
  | .blsfill32 _ | .blsfill64 _ | .blsic32 _ | .blsic64 _ | .t1mskc32 _ | .t1mskc64 _
  | .tzmsk32 _ | .tzmsk64 _ =>
    .family .tbm
  | .paddb _ | .paddw _ | .paddd _ | .paddq _ | .psubb _ | .psubw _
  | .psubd _ | .psubq _ | .pand _ | .pandn _ | .por _ | .pxor _
  | .pcmpeqb _ | .pcmpeqw _ | .pcmpeqd _ | .pcmpeqq _ | .pcmpgtb _ | .pcmpgtw _
  | .pcmpgtd _ | .pcmpgtq _ | .pminsb _ | .pminsw _ | .pminsd _ | .pminub _
  | .pminuw _ | .pminud _ | .pmaxsb _ | .pmaxsw _ | .pmaxsd _ | .pmaxub _
  | .pmaxuw _ | .pmaxud _ | .psllwI _ | .pslldI _ | .psllqI _ | .psrlwI _
  | .psrldI _ | .psrlqI _ | .psrawI _ | .psradI _ | .pshufd _ | .pshufb _
  | .movdquLd _ | .movdquSt _ =>
    .family .sse
  | .vpaddb _ | .vpaddw _ | .vpaddd _ | .vpaddq _ | .vpsubb _ | .vpsubw _
  | .vpsubd _ | .vpsubq _ | .vpandd _ | .vpandq _ | .vpandnd _ | .vpandnq _
  | .vpord _ | .vporq _ | .vpxord _ | .vpxorq _ | .vpcmpeqb _ | .vpcmpeqw _
  | .vpcmpeqd _ | .vpcmpeqq _ | .vpcmpgtb _ | .vpcmpgtw _ | .vpcmpgtd _ | .vpcmpgtq _
  | .vpminsb _ | .vpminsw _ | .vpminsd _ | .vpminsq _ | .vpminub _ | .vpminuw _
  | .vpminud _ | .vpminuq _ | .vpmaxsb _ | .vpmaxsw _ | .vpmaxsd _ | .vpmaxsq _
  | .vpmaxub _ | .vpmaxuw _ | .vpmaxud _ | .vpmaxuq _ | .vpsllwI _ | .vpslldI _
  | .vpsllqI _ | .vpsrlwI _ | .vpsrldI _ | .vpsrlqI _ | .vpsrawI _ | .vpsradI _
  | .vpsraqI _ | .vpsllvw _ | .vpsllvd _ | .vpsllvq _ | .vpsrlvw _ | .vpsrlvd _
  | .vpsrlvq _ | .vpsravw _ | .vpsravd _ | .vpsravq _ | .vpshufd _ | .vpshufb _
  | .vmovdqu8Ld _ | .vmovdqu16Ld _ | .vmovdqu32Ld _ | .vmovdqu64Ld _ | .vmovdqu8St _ | .vmovdqu16St _
  | .vmovdqu32St _ | .vmovdqu64St _ =>
    .avxFamily
  | .vpcmpb _ | .vpcmpw _ | .vpcmpd _ | .vpcmpq _ | .vpcmpub _ | .vpcmpuw _
  | .vpcmpud _ | .vpcmpuq _ | .vpcompressb _ | .vpcompressw _ | .vpcompressd _ | .vpcompressq _
  | .vpexpandb _ | .vpexpandw _ | .vpexpandd _ | .vpexpandq _ | .vpermb _ | .vpermw _
  | .vpermd _ | .vpermq _ | .valignd _ | .valignq _ | .kmovbKg _ | .kmovwKg _
  | .kmovdKg _ | .kmovqKg _ | .kmovbGk _ | .kmovwGk _ | .kmovdGk _ | .kmovqGk _ =>
    .family .avx512
  | .vpcomb _ | .vpcomw _ | .vpcomd _ | .vpcomq _ | .vpcomub _ | .vpcomuw _
  | .vpcomud _ | .vpcomuq _ | .vpperm _ | .vpcmov _ | .vpmacssww _ | .vpmacsww _
  | .vpmacsswd _ | .vpmacswd _ | .vpmacssdd _ | .vpmacsdd _ | .vpmacssdql _ | .vpmacsdql _
  | .vpmacssdqh _ | .vpmacsdqh _ | .vpmadcsswd _ | .vpmadcswd _ =>
    .family .xop

/-- R120: the clause of well-formedness that an instruction breaks, if any. -/
def Instr.malformed? (i : Instr) : Option Malformed :=
  match i.shape with
  | none    => none
  | some sh => sh.malformed? i.desc

/-- R121: whether `FEATURES` meets a handler's need for a descriptor. -/
def FeatureNeed.met (n : FeatureNeed) (fs : Features) (d : Desc) : Bool :=
  match n with
  | .nothing   => true
  | .family f  => fs.has f
  | .avxFamily => fs.has .avx && (!(decide (d.vl = 2#2) || decide (d.opmask ≠ 0#3)) || fs.has .avx512)

/-- R121: whether `FEATURES` allows the instruction. -/
def Instr.enabled (fs : Features) (i : Instr) : Bool :=
  i.featureNeed.met fs i.desc

end Sys2Proof
end

