-- ==== Sys2Proof/Machine/Ops.lean ====
section
/-! DEFINITION. The named operations of the execution engine: registers (spec/10_state.md R10 to R22), the memory port and the
LAPIC window (spec/20_memory.md R80 to R92), raising a fault signal (spec/60_exceptions.md R351), and the handler contract
(spec/40_primitives_flags_masking.md R180). -/

namespace Sys2Proof.Machine

/-! Registers of the CPU in focus. -/

/-- `GPR[i]` (R10). -/
def State.gpr (s : State) (i : Nat) : Word :=
  s.cpu.ee.gpr[i % 16]'(Nat.mod_lt _ (by decide))

/-- The machine with `GPR[i]` replaced. -/
def State.setGpr (s : State) (i : Nat) (x : Word) : State :=
  { s with cpu := { s.cpu with ee := { s.cpu.ee with
      gpr := s.cpu.ee.gpr.set (i % 16) x (Nat.mod_lt _ (by decide)) } } }

/-- R11: `x[i]_w`. -/
def State.x (s : State) (w : Nat) (i : BitVec 5) : BitVec w :=
  (s.gpr i.toNat).setWidth w

/-- R12: what a `w`-bit write of `v` makes of the 64-bit register `old`: a 16-bit write keeps bits 63:16, a 32-bit write
clears bits 63:32. -/
def mergeGpr (w : Nat) (old : Word) (v : BitVec w) : Word :=
  if w = 16 then old &&& 0xFFFFFFFFFFFF0000#64 ||| v.setWidth 64 else v.setWidth 64

/-- R12: `x[i]_w <- v`. -/
def State.setX (s : State) {w : Nat} (i : BitVec 5) (v : BitVec w) : State :=
  s.setGpr i.toNat (mergeGpr w (s.gpr i.toNat) v)

/-- `V[r]` (R18). -/
def State.vreg (s : State) (r : Nat) : Packed :=
  s.cpu.ee.v[r % 32]'(Nat.mod_lt _ (by decide))

/-- The machine with `V[r]` replaced. -/
def State.setVreg (s : State) (r : Nat) (x : Packed) : State :=
  { s with cpu := { s.cpu with ee := { s.cpu.ee with
      v := s.cpu.ee.v.set (r % 32) x (Nat.mod_lt _ (by decide)) } } }

/-- `K[k]` (R22). -/
def State.kreg (s : State) (k : Nat) : Word :=
  s.cpu.ee.k[k % 8]'(Nat.mod_lt _ (by decide))

/-- The machine with `K[k]` replaced. -/
def State.setKreg (s : State) (k : Nat) (x : Word) : State :=
  { s with cpu := { s.cpu with ee := { s.cpu.ee with
      k := s.cpu.ee.k.set (k % 8) x (Nat.mod_lt _ (by decide)) } } }

/-- `RFLAGS` (R15). -/
def State.rflags (s : State) : Word :=
  s.cpu.ee.rflags

/-- The machine with `RFLAGS` replaced. -/
def State.setRflags (s : State) (x : Word) : State :=
  { s with cpu := { s.cpu with ee := { s.cpu.ee with rflags := x } } }

/-- `RIP` (R14). -/
def State.rip (s : State) : Word :=
  s.cpu.ee.rip

/-- R14: `pc <- pc + zext_64(ilen)`, modulo 2^64. -/
def State.advance (s : State) (ilen : BitVec 4) : State :=
  { s with cpu := { s.cpu with ee := { s.cpu.ee with rip := s.cpu.ee.rip + ilen.setWidth 64 } } }

/-! Data memory: a list of (address, byte) pairs, addresses strictly rising, no entry equal to the unlisted byte. -/

/-- What an unlisted address reads as (the spec gives no contents at power-on: DESIGN CHOICE, unsafe, log 2). -/
def unlistedByte : Byte := 0x00#8

/-- The canonical form of memory. -/
abbrev Memory.wf (m : List Host.Cell) : Prop :=
  m.Pairwise (fun p q => p.1 < q.1) ∧ ∀ p ∈ m, p.2 ≠ unlistedByte ∧ p.1 < 2 ^ 64

/-- The byte at an address. -/
def Memory.read : List Host.Cell → Nat → Byte
  | [], _ => unlistedByte
  | c :: m, a => if c.1 = a then c.2 else Memory.read m a

/-- Memory with no entry at an address. -/
def Memory.erase (m : List Host.Cell) (a : Nat) : List Host.Cell :=
  m.filter fun c => c.1 != a

/-- Memory with an entry put before the first greater address. -/
def Memory.insert (a : Nat) (b : Byte) : List Host.Cell → List Host.Cell
  | [] => [(a, b)]
  | c :: m => if a < c.1 then (a, b) :: c :: m else c :: Memory.insert a b m

/-- Memory after a byte was stored: storing the unlisted byte removes the entry. -/
def Memory.write (m : List Host.Cell) (a : Nat) (b : Byte) : List Host.Cell :=
  if b = unlistedByte then Memory.erase m a else Memory.insert a b (Memory.erase m a)

/-- The address of byte `i` of an access at `a`; addresses wrap modulo 2^64 (DESIGN CHOICE, log 8). -/
def byteAddr (a : Word) (i : Nat) : Nat :=
  (a + BitVec.ofNat 64 i).toNat

/-- The byte of memory at a 64-bit address. -/
def State.byteAt (s : State) (a : Word) : Byte :=
  Memory.read s.mem a.toNat

/-- R82: the `n` bytes at `a`, the one at the lowest address in bits 7:0. -/
def Memory.readBytes (m : List Host.Cell) (a : Word) (n : Nat) : Packed :=
  packLanes 8 (fun i => Memory.read m (byteAddr a i)) n

/-- R82: the low `8n` bits of `v` stored as `n` bytes at `a`. -/
def Memory.writeBytes (m : List Host.Cell) (a : Word) (v : Packed) : Nat → List Host.Cell
  | 0     => m
  | n + 1 => Memory.write (Memory.writeBytes m a v n) (byteAddr a n) (lane 8 v n)

/-- Whether `MEM` faults an access of one byte. -/
def MemFaultRange.covers (isWrite : Bool) (a : Word) (r : MemFaultRange) : Bool :=
  decide ((a - r.base).toNat < r.size.toNat) && (if isWrite then r.onWrite else r.onRead)

/-- R81: the fault `MEM` returns for an access of `n` bytes at `a`, none if it accepts it. The record names the first byte
that faults (the collaborator's choice: DESIGN CHOICE, log 7). -/
def memFaultOf (rs : List MemFaultRange) (isWrite : Bool) (a : Word) (n : Nat) : Option MemFaultRecord :=
  (List.range n).findSome? fun i =>
    (rs.find? (MemFaultRange.covers isWrite (a + BitVec.ofNat 64 i))).map fun r =>
      ⟨r.vector, r.errorCode, a + BitVec.ofNat 64 i⟩

/-! The handler's progress. -/

/-- What part of a handler leaves: it goes on with a value, it has raised a fault signal (and `s` holds the memory and LAPIC
effects of element stores already made, R89), or the machine stops (R447). -/
inductive Access (α : Type) where
  | ok (v : α) (s : State)
  | raised (sig : FaultSignal) (s : State)
  | stopped (i : Invariant)

/-- The rest of a handler, when the part before it did not end it. -/
def Access.bind {α β : Type} (r : Access α) (f : α → State → Access β) : Access β :=
  match r with
  | .ok v s       => f v s
  | .raised sig s => .raised sig s
  | .stopped i    => .stopped i

/-- The value of a part of a handler, changed. -/
def Access.map {α β : Type} (f : α → β) (r : Access α) : Access β :=
  r.bind fun v s => .ok (f v) s

/-- R180: a part of a handler that only reads, begun in `s`: when it raises a fault signal it has changed nothing. -/
def Access.undone {α : Type} (s : State) (r : Access α) : Access α :=
  match r with
  | .raised sig _ => .raised sig s
  | r             => r

/-! The memory port and the LAPIC window. -/

/-- Where an access of the EE goes (R86, R90). -/
inductive Target where
  | memory
  | window (slot : BitVec 8)
  /-- R86, R354: the offset is the payload of the signal. -/
  | malformed (offset : Word)
deriving DecidableEq, Repr

/-- R86, R90, R125: the routing of an access of `n` bytes at `a`. While the LAPIC in focus is in XAPIC mode an access with a
byte in the window is a LAPIC access, malformed unless it is 4 bytes at a 16-byte aligned offset (log 9). -/
def State.target (s : State) (a : Word) (n : Nat) : Target :=
  let off := a - s.cfg.apicBase
  let last := a + BitVec.ofNat 64 (n - 1) - s.cfg.apicBase
  if s.cpu.lapic.mode = .xapic ∧ (off.toNat < 0x1000 ∨ last.toNat < 0x1000) then
    if n = 4 ∧ off.toNat < 0x1000 ∧ off.toNat % 16 = 0 then .window (off.extractLsb' 4 8) else .malformed off
  else .memory

/-- R81, R90: `MemRead(a, n)`. -/
def State.memRead (s : State) (a : Word) (n : Nat) : Access Packed :=
  match s.target a n with
  | .memory =>
    match memFaultOf s.memFaults false a n with
    | some r => .raised (.memFault r) s
    | none   => .ok (Memory.readBytes s.mem a n) s
  | .window slot =>
    match s.cpu.lapic.mmioRead s.cfg s.now slot with
    | .ok r    => .ok (r.1.setWidth 512) (s.putLapic r.2)
    | .error i => .stopped i
  | .malformed off => .raised (.malformedApicAccess off n false) s

/-- R81, R90: `MemWrite(a, n, v)`. -/
def State.memWrite (s : State) (a : Word) (n : Nat) (v : Packed) : Access Unit :=
  match s.target a n with
  | .memory =>
    match memFaultOf s.memFaults true a n with
    | some r => .raised (.memFault r) s
    | none   => .ok () { s with mem := Memory.writeBytes s.mem a v n }
  | .window slot =>
    match s.mmioWrite slot (v.setWidth 32) with
    | .ok s'   => .ok () s'
    | .error i => .stopped i
  | .malformed off => .raised (.malformedApicAccess off n true) s

/-- R89, R180: the elements at the addresses given, one access of `w/8` bytes each, in order. Only element stores may precede
a fault: when a read faults, what the reads before it changed in the LAPIC is undone (log 10). -/
def State.readElements (s : State) (w : Nat) : List Word → Access (List (BitVec w))
  | [] => .ok [] s
  | a :: rest =>
    ((s.memRead a (w / 8)).bind fun v t => (t.readElements w rest).map fun vs => v.setWidth w :: vs).undone s

/-- R89: the elements stored at the addresses given, one access of `w/8` bytes each, in order. -/
def State.writeElements (s : State) (w : Nat) : List (Word × BitVec w) → Access Unit
  | [] => .ok () s
  | e :: rest => (s.memWrite e.1 (w / 8) (e.2.setWidth 512)).bind fun _ s => s.writeElements w rest

/-! Faults and the handler contract. -/

/-- R351: a fault signal to the controller of the CPU in focus: nothing of the block changes, the trace records it. -/
def State.raise (s : State) (sig : FaultSignal) : State :=
  { s with trace := s.trace ++ [.fault s.focus sig] }

/-- The outcomes of a step of the machine. -/
abbrev StepOutcome := Host.Outcome State Fault Refusal

/-- The last part of R180: a handler that completes advances RIP (step 8), one that raised a fault signal leaves every
register, the flags and RIP as they were (R351). -/
def Access.finish (d : Desc) (r : Access Unit) : StepOutcome :=
  match r with
  | .ok _ s       => .next (s.advance d.ilen)
  | .raised sig s => .next (s.raise sig)
  | .stopped i    => .fault (.invariantViolation i)

/-- R180: one step of `EE[c]` for a handler with operand roles `sh` and feature need `need`; `body` is steps 4 to 7. -/
def runHandler (sh : Shape) (need : FeatureNeed) (body : Desc → State → Access Unit) (d : Desc) (s : State) :
    StepOutcome :=
  match sh.malformed? d with
  | some clause => .refused (.malformedDescriptor clause)
  | none =>
    if need.met s.cpu.features d then (body d s).finish d else .next (s.raise .invalidOpcode)

end Sys2Proof.Machine
end

