-- ==== Sys2Proof/Machine/Flags.lean ====
section
/-! DEFINITION. The flag-update unit (spec/40_primitives_flags_masking.md R150 to R153; flag positions spec/10_state.md R15). -/

namespace Sys2Proof.Machine

/-- What an instruction does to one flag. -/
inductive FlagEffect where
  /-- not written -/
  | keep
  | put (b : Bool)
  /-- the ISA leaves it undefined: `UNDEF_FLAG_POLICY` decides (R153) -/
  | undefined
deriving DecidableEq, Repr

/-- What an instruction does to the six condition flags. -/
structure FlagUpdate where
  cf  : FlagEffect
  pf  : FlagEffect
  af  : FlagEffect
  zf  : FlagEffect
  sf  : FlagEffect
  of_ : FlagEffect
deriving DecidableEq, Repr

/-- R150: `LogicFlags_w(res)`, with CF overridden by `cf` (each BMI and TBM rule names its own). -/
def logicFlags {w : Nat} (res : BitVec w) (cf : Bool) : FlagUpdate where
  cf  := .put cf
  pf  := .put (parity8 res)
  af  := .put false
  zf  := .put (res == 0#w)
  sf  := .put res.msb
  of_ := .put false

/-- R151, R190: CF is written, ZF is not; OF, SF, AF and PF are undefined. -/
def bitTestFlags (cf : Bool) : FlagUpdate where
  cf  := .put cf
  pf  := .undefined
  af  := .undefined
  zf  := .keep
  sf  := .undefined
  of_ := .undefined

/-- R152: `CountFlags(cf, zf)`. -/
def countFlags (cf zf : Bool) : FlagUpdate where
  cf  := .put cf
  pf  := .undefined
  af  := .undefined
  zf  := .put zf
  sf  := .undefined
  of_ := .undefined

/-- R152: `PopcntFlags(src)`, `zero` saying whether the source is 0. -/
def popcntFlags (zero : Bool) : FlagUpdate where
  cf  := .put false
  pf  := .put false
  af  := .put false
  zf  := .put zero
  sf  := .put false
  of_ := .put false

/-- R152: `ZFonly(z)`. -/
def zfOnly (z : Bool) : FlagUpdate where
  cf  := .undefined
  pf  := .undefined
  af  := .undefined
  zf  := .put z
  sf  := .undefined
  of_ := .undefined

/-- A value with one bit written. -/
def putBit (x : Word) (i : Nat) (b : Bool) : Word :=
  if b then x ||| 1#64 <<< i else x &&& ~~~ (1#64 <<< i)

/-- R153: the effect on the flag at bit `i`; `free` is the value a drawn flag takes. -/
def FlagEffect.apply (e : FlagEffect) (policy : UndefFlagPolicy) (free : Bool) (i : Nat) (x : Word) : Word :=
  match e with
  | .keep  => x
  | .put b => putBit x i b
  | .undefined =>
    match policy with
    | .unchanged => x
    | .draw      => putBit x i free

/-- `RFLAGS` after an update; `n` numbers the first free value (R15, R153). -/
def FlagUpdate.apply (u : FlagUpdate) (policy : UndefFlagPolicy) (n : Nat) (x : Word) : Word :=
  let x := u.cf.apply policy (Config.freeFlag n) 0 x
  let x := u.pf.apply policy (Config.freeFlag (n + 1)) 2 x
  let x := u.af.apply policy (Config.freeFlag (n + 2)) 4 x
  let x := u.zf.apply policy (Config.freeFlag (n + 3)) 6 x
  let x := u.sf.apply policy (Config.freeFlag (n + 4)) 7 x
  u.of_.apply policy (Config.freeFlag (n + 5)) 11 x

/-- The machine after a flag update. Under `draw` the six free values of the update are used up, so that the next update
meets fresh ones (R153, U2; log 6). -/
def State.writeFlags (s : State) (u : FlagUpdate) : State :=
  match s.cfg.undefFlagPolicy with
  | .unchanged => s.setRflags (u.apply .unchanged s.draws s.rflags)
  | .draw      => { s.setRflags (u.apply .draw s.draws s.rflags) with draws := s.draws + 6 }

end Sys2Proof.Machine
end

