-- ==== Sys2Proof/Machine/Operands.lean ====
section
/-! DEFINITION. Operand fetch (spec/40_primitives_flags_masking.md R161, R162), the location of a tested bit
(spec/41_bitops.md R200), mask state (R172), and the vector write operations (R170, R171, R173). -/

namespace Sys2Proof

/-- R115: the 8-bit immediate. -/
def Desc.imm8 (d : Desc) : BitVec 8 :=
  d.imm.setWidth 8

/-- R113: the active vector length in bits. -/
def Desc.vlBits (d : Desc) : Nat :=
  128 <<< d.vl.toNat

/-- R115, R290, R321: the predicate of a compare. -/
def Desc.predicate (d : Desc) : BitVec 3 :=
  d.imm.setWidth 3

/-- R172: the states of the masked-write unit. -/
inductive MaskState where
  | unmasked | mergeMasked | zeroMasked
deriving DecidableEq, Repr

/-- R172: `MaskState(d)`: the test is on the register index. -/
def Desc.maskState (d : Desc) : MaskState :=
  if d.opmask = 0#3 then .unmasked else if d.zmask then .zeroMasked else .mergeMasked

end Sys2Proof

namespace Sys2Proof.Machine

/-- R161: a general-register-or-memory source of width `w`, register `r`. -/
def State.srcG (s : State) (w : Nat) (d : Desc) (r : BitVec 5) : Access (BitVec w) :=
  if d.memform then (s.memRead d.addr (w / 8)).map (BitVec.setWidth w) else .ok (s.x w r) s

/-- R162: a vector-register-or-memory source of `L` bits, register `r`. -/
def State.srcV (s : State) (L : Nat) (d : Desc) (r : BitVec 5) : Access Packed :=
  if d.memform then s.memRead d.addr (L / 8) else .ok (lowBits L (s.vreg r.toNat)) s

/-- The two forms of the bit offset of BT, BTS, BTR, BTC (R199). -/
inductive BitOffset where
  | reg | imm
deriving DecidableEq, Repr

/-- R200: the position of the tested bit in its word. -/
def State.bitIndex (s : State) (w : Nat) (o : BitOffset) (d : Desc) : Nat :=
  match o with
  | .reg => (s.x w d.src1).toNat % w
  | .imm => d.imm8.toNat % w

/-- R200: the address of the word that holds the tested bit, memory form. With a register offset the upper bits of the offset,
as a signed count of words, move the address. -/
def State.bitAddress (s : State) (w : Nat) (o : BitOffset) (d : Desc) : Word :=
  match o with
  | .reg => d.addr + BitVec.ofInt 64 ((w / 8 : Nat) * ((s.x w d.src1).toInt / (w : Int)))
  | .imm => d.addr

/-- R200: the word that holds the tested bit. -/
def State.bitBase (s : State) (w : Nat) (o : BitOffset) (d : Desc) : Access (BitVec w) :=
  if d.memform then (s.memRead (s.bitAddress w o d) (w / 8)).map (BitVec.setWidth w) else .ok (s.x w d.dst) s

/-- R172: `MaskBits(d, n)`. -/
def State.maskBits (s : State) (d : Desc) (n : Nat) : Word :=
  if d.opmask = 0#3 then lowOnes 64 n else s.kreg d.opmask.toNat &&& lowOnes 64 n

/-- R173: what `MaskedWrite_w` puts into a register that holds `old`, for a result `res` of `L` bits and mask bits `k`. -/
def maskedValue (up : MergeUpper) (st : MaskState) (w L : Nat) (k : Word) (res old : Packed) : Packed :=
  match st with
  | .unmasked    => lowBits L res
  | .zeroMasked  => packLanes w (fun i => if k.getLsbD i then lane w res i else 0#w) (L / w)
  | .mergeMasked =>
    let out := packLanes w (fun i => if k.getLsbD i then lane w res i else lane w old i) (L / w)
    match up with
    | .preserve => highBits L old ||| out
    | .zero     => out

/-- R170: `Write128(r, v)`. -/
def State.write128 (s : State) (r : BitVec 5) (v : Packed) : State :=
  s.setVreg r.toNat (highBits 128 (s.vreg r.toNat) ||| lowBits 128 v)

/-- R171: `WriteRegZ(r, L, v)`. -/
def State.writeRegZ (s : State) (r : BitVec 5) (L : Nat) (v : Packed) : State :=
  s.setVreg r.toNat (lowBits L v)

/-- R173: `MaskedWrite_w(d.dst, VL, res, d)` with mask bits `k`. -/
def State.maskedWriteWith (s : State) (w : Nat) (k : Word) (res : Packed) (d : Desc) : State :=
  s.setVreg d.dst.toNat (maskedValue s.cfg.mergeUpper d.maskState w d.vlBits k res (s.vreg d.dst.toNat))

/-- R173: `MaskedWrite_w(d.dst, VL, res, d)`. -/
def State.maskedWrite (s : State) (w : Nat) (res : Packed) (d : Desc) : State :=
  s.maskedWriteWith w (s.maskBits d (d.vlBits / w)) res d

end Sys2Proof.Machine
end

