-- ==== Sys2Proof/Machine/SimdV.lean ====
section
/-! DEFINITION. Class V: AVX, AVX2 and EVEX packed integer (spec/44_simd_int.md R246, R250 to R269, R279), at 128, 256 or 512
bits, with masked writes. -/

namespace Sys2Proof.Machine

/-- R246: `src1` is the first source, `src2` or memory the second; masked write with elements of `w` bits. -/
def vecBinary (w : Nat) (op : PackedOp) (d : Desc) (s : State) : Access Unit :=
  (s.srcV d.vlBits d d.src2).bind fun b s₁ =>
    .ok () (s₁.maskedWrite w (op d.vlBits (lowBits d.vlBits (s.vreg d.src1.toNat)) b) d)

/-- R256, R257: the VEX compares write the whole register, no mask. -/
def vecCompare (op : PackedOp) (d : Desc) (s : State) : Access Unit :=
  (s.srcV d.vlBits d d.src2).bind fun b s₁ =>
    .ok () (s₁.writeRegZ d.dst d.vlBits (op d.vlBits (lowBits d.vlBits (s.vreg d.src1.toNat)) b))

/-- R262 to R264: the elements of the source shifted by the immediate, not reduced. -/
def vecShift (w : Nat) (f : BitVec w → Nat → BitVec w) (d : Desc) (s : State) : Access Unit :=
  (s.srcV d.vlBits d d.src2).bind fun b s₁ =>
    .ok () (s₁.maskedWrite w (map1 w (fun e => f e d.imm8.toNat) d.vlBits b) d)

/-- R265 to R267: each element shifted by the whole element of the second source. -/
def perElement (w : Nat) (f : BitVec w → Nat → BitVec w) : PackedOp :=
  map2 w fun a b => f a b.toNat

/-- R268. -/
def vpshufdBody (d : Desc) (s : State) : Access Unit :=
  (s.srcV d.vlBits d d.src2).bind fun b s₁ => .ok () (s₁.maskedWrite 32 (pshufd d.imm8 d.vlBits b) d)

/-- The indices of the elements a masked handler selects, ascending (R89). -/
def State.selectedOf (s : State) (w : Nat) (d : Desc) : List Nat :=
  selected (s.maskBits d (d.vlBits / w)) (d.vlBits / w)

/-- The address of element `i` of a packed operand in memory (R83, R89). -/
def elementAddr (w : Nat) (a : Word) (i : Nat) : Word :=
  a + BitVec.ofNat 64 (i * (w / 8))

/-- R279: VMOVDQU load. From memory under a mask, only the selected elements are read, one access each. -/
def vmovdquLoad (w : Nat) (d : Desc) (s : State) : Access Unit :=
  if d.memform && d.opmask != 0#3 then
    (s.readElements w ((s.selectedOf w d).map (elementAddr w d.addr))).bind fun es s₁ =>
      .ok () (s₁.maskedWrite w (scatter w (s.maskBits d (d.vlBits / w)) (d.vlBits / w) es) d)
  else
    (s.srcV d.vlBits d d.src2).bind fun b s₁ => .ok () (s₁.maskedWrite w b d)

/-- R279: VMOVDQU store. Under a mask, only the selected elements are stored, one access each. -/
def vmovdquStore (w : Nat) (d : Desc) (s : State) : Access Unit :=
  let src := lowBits d.vlBits (s.vreg d.src2.toNat)
  if d.opmask = 0#3 then s.memWrite d.addr (d.vlBits / 8) src
  else s.writeElements w ((s.selectedOf w d).map fun i => (elementAddr w d.addr i, lane w src i))

/-! The handlers. -/

/-- VPADDB (0x100), `VPADDB v1 (k, z), v2, v3/m`: R250. -/
def execVpaddb (d : Desc) (s : State) : StepOutcome :=
  runHandler .vecBinary .avxFamily (vecBinary 8 (map2 8 addL)) d s

/-- VPADDW (0x101), `VPADDW v1 (k, z), v2, v3/m`: R250. -/
def execVpaddw (d : Desc) (s : State) : StepOutcome :=
  runHandler .vecBinary .avxFamily (vecBinary 16 (map2 16 addL)) d s

/-- VPADDD (0x102), `VPADDD v1 (k, z), v2, v3/m`: R250. -/
def execVpaddd (d : Desc) (s : State) : StepOutcome :=
  runHandler .vecBinary .avxFamily (vecBinary 32 (map2 32 addL)) d s

/-- VPADDQ (0x103), `VPADDQ v1 (k, z), v2, v3/m`: R250. -/
def execVpaddq (d : Desc) (s : State) : StepOutcome :=
  runHandler .vecBinary .avxFamily (vecBinary 64 (map2 64 addL)) d s

/-- VPSUBB (0x104), `VPSUBB v1 (k, z), v2, v3/m`: R251. -/
def execVpsubb (d : Desc) (s : State) : StepOutcome :=
  runHandler .vecBinary .avxFamily (vecBinary 8 (map2 8 subL)) d s

/-- VPSUBW (0x105), `VPSUBW v1 (k, z), v2, v3/m`: R251. -/
def execVpsubw (d : Desc) (s : State) : StepOutcome :=
  runHandler .vecBinary .avxFamily (vecBinary 16 (map2 16 subL)) d s

/-- VPSUBD (0x106), `VPSUBD v1 (k, z), v2, v3/m`: R251. -/
def execVpsubd (d : Desc) (s : State) : StepOutcome :=
  runHandler .vecBinary .avxFamily (vecBinary 32 (map2 32 subL)) d s

/-- VPSUBQ (0x107), `VPSUBQ v1 (k, z), v2, v3/m`: R251. -/
def execVpsubq (d : Desc) (s : State) : StepOutcome :=
  runHandler .vecBinary .avxFamily (vecBinary 64 (map2 64 subL)) d s

/-- VPANDD (0x108), `VPANDD v1 (k, z), v2, v3/m`: R252. -/
def execVpandd (d : Desc) (s : State) : StepOutcome :=
  runHandler .vecBinary .avxFamily (vecBinary 32 andP) d s

/-- VPANDQ (0x109), `VPANDQ v1 (k, z), v2, v3/m`: R252. -/
def execVpandq (d : Desc) (s : State) : StepOutcome :=
  runHandler .vecBinary .avxFamily (vecBinary 64 andP) d s

/-- VPANDND (0x10A), `VPANDND v1 (k, z), v2, v3/m`: R253. -/
def execVpandnd (d : Desc) (s : State) : StepOutcome :=
  runHandler .vecBinary .avxFamily (vecBinary 32 andnP) d s

/-- VPANDNQ (0x10B), `VPANDNQ v1 (k, z), v2, v3/m`: R253. -/
def execVpandnq (d : Desc) (s : State) : StepOutcome :=
  runHandler .vecBinary .avxFamily (vecBinary 64 andnP) d s

/-- VPORD (0x10C), `VPORD v1 (k, z), v2, v3/m`: R254. -/
def execVpord (d : Desc) (s : State) : StepOutcome :=
  runHandler .vecBinary .avxFamily (vecBinary 32 orP) d s

/-- VPORQ (0x10D), `VPORQ v1 (k, z), v2, v3/m`: R254. -/
def execVporq (d : Desc) (s : State) : StepOutcome :=
  runHandler .vecBinary .avxFamily (vecBinary 64 orP) d s

/-- VPXORD (0x10E), `VPXORD v1 (k, z), v2, v3/m`: R255. -/
def execVpxord (d : Desc) (s : State) : StepOutcome :=
  runHandler .vecBinary .avxFamily (vecBinary 32 xorP) d s

/-- VPXORQ (0x10F), `VPXORQ v1 (k, z), v2, v3/m`: R255. -/
def execVpxorq (d : Desc) (s : State) : StepOutcome :=
  runHandler .vecBinary .avxFamily (vecBinary 64 xorP) d s

/-- VPCMPEQB (0x110), `VPCMPEQB v1, v2, v3/m`: R256. -/
def execVpcmpeqb (d : Desc) (s : State) : StepOutcome :=
  runHandler .vecCompare .avxFamily (vecCompare (cmpLanes 8 eqP)) d s

/-- VPCMPEQW (0x111), `VPCMPEQW v1, v2, v3/m`: R256. -/
def execVpcmpeqw (d : Desc) (s : State) : StepOutcome :=
  runHandler .vecCompare .avxFamily (vecCompare (cmpLanes 16 eqP)) d s

/-- VPCMPEQD (0x112), `VPCMPEQD v1, v2, v3/m`: R256. -/
def execVpcmpeqd (d : Desc) (s : State) : StepOutcome :=
  runHandler .vecCompare .avxFamily (vecCompare (cmpLanes 32 eqP)) d s

/-- VPCMPEQQ (0x113), `VPCMPEQQ v1, v2, v3/m`: R256. -/
def execVpcmpeqq (d : Desc) (s : State) : StepOutcome :=
  runHandler .vecCompare .avxFamily (vecCompare (cmpLanes 64 eqP)) d s

/-- VPCMPGTB (0x114), `VPCMPGTB v1, v2, v3/m`: R257. -/
def execVpcmpgtb (d : Desc) (s : State) : StepOutcome :=
  runHandler .vecCompare .avxFamily (vecCompare (cmpLanes 8 gtS)) d s

/-- VPCMPGTW (0x115), `VPCMPGTW v1, v2, v3/m`: R257. -/
def execVpcmpgtw (d : Desc) (s : State) : StepOutcome :=
  runHandler .vecCompare .avxFamily (vecCompare (cmpLanes 16 gtS)) d s

/-- VPCMPGTD (0x116), `VPCMPGTD v1, v2, v3/m`: R257. -/
def execVpcmpgtd (d : Desc) (s : State) : StepOutcome :=
  runHandler .vecCompare .avxFamily (vecCompare (cmpLanes 32 gtS)) d s

/-- VPCMPGTQ (0x117), `VPCMPGTQ v1, v2, v3/m`: R257. -/
def execVpcmpgtq (d : Desc) (s : State) : StepOutcome :=
  runHandler .vecCompare .avxFamily (vecCompare (cmpLanes 64 gtS)) d s

/-- VPMINSB (0x118), `VPMINSB v1 (k, z), v2, v3/m`: R258. -/
def execVpminsb (d : Desc) (s : State) : StepOutcome :=
  runHandler .vecBinary .avxFamily (vecBinary 8 (map2 8 minsL)) d s

/-- VPMINSW (0x119), `VPMINSW v1 (k, z), v2, v3/m`: R258. -/
def execVpminsw (d : Desc) (s : State) : StepOutcome :=
  runHandler .vecBinary .avxFamily (vecBinary 16 (map2 16 minsL)) d s

/-- VPMINSD (0x11A), `VPMINSD v1 (k, z), v2, v3/m`: R258. -/
def execVpminsd (d : Desc) (s : State) : StepOutcome :=
  runHandler .vecBinary .avxFamily (vecBinary 32 (map2 32 minsL)) d s

/-- VPMINSQ (0x11B), `VPMINSQ v1 (k, z), v2, v3/m`: R258. -/
def execVpminsq (d : Desc) (s : State) : StepOutcome :=
  runHandler .vecBinary .avxFamily (vecBinary 64 (map2 64 minsL)) d s

/-- VPMINUB (0x11C), `VPMINUB v1 (k, z), v2, v3/m`: R259. -/
def execVpminub (d : Desc) (s : State) : StepOutcome :=
  runHandler .vecBinary .avxFamily (vecBinary 8 (map2 8 minuL)) d s

/-- VPMINUW (0x11D), `VPMINUW v1 (k, z), v2, v3/m`: R259. -/
def execVpminuw (d : Desc) (s : State) : StepOutcome :=
  runHandler .vecBinary .avxFamily (vecBinary 16 (map2 16 minuL)) d s

/-- VPMINUD (0x11E), `VPMINUD v1 (k, z), v2, v3/m`: R259. -/
def execVpminud (d : Desc) (s : State) : StepOutcome :=
  runHandler .vecBinary .avxFamily (vecBinary 32 (map2 32 minuL)) d s

/-- VPMINUQ (0x11F), `VPMINUQ v1 (k, z), v2, v3/m`: R259. -/
def execVpminuq (d : Desc) (s : State) : StepOutcome :=
  runHandler .vecBinary .avxFamily (vecBinary 64 (map2 64 minuL)) d s

/-- VPMAXSB (0x120), `VPMAXSB v1 (k, z), v2, v3/m`: R260. -/
def execVpmaxsb (d : Desc) (s : State) : StepOutcome :=
  runHandler .vecBinary .avxFamily (vecBinary 8 (map2 8 maxsL)) d s

/-- VPMAXSW (0x121), `VPMAXSW v1 (k, z), v2, v3/m`: R260. -/
def execVpmaxsw (d : Desc) (s : State) : StepOutcome :=
  runHandler .vecBinary .avxFamily (vecBinary 16 (map2 16 maxsL)) d s

/-- VPMAXSD (0x122), `VPMAXSD v1 (k, z), v2, v3/m`: R260. -/
def execVpmaxsd (d : Desc) (s : State) : StepOutcome :=
  runHandler .vecBinary .avxFamily (vecBinary 32 (map2 32 maxsL)) d s

/-- VPMAXSQ (0x123), `VPMAXSQ v1 (k, z), v2, v3/m`: R260. -/
def execVpmaxsq (d : Desc) (s : State) : StepOutcome :=
  runHandler .vecBinary .avxFamily (vecBinary 64 (map2 64 maxsL)) d s

/-- VPMAXUB (0x124), `VPMAXUB v1 (k, z), v2, v3/m`: R261. -/
def execVpmaxub (d : Desc) (s : State) : StepOutcome :=
  runHandler .vecBinary .avxFamily (vecBinary 8 (map2 8 maxuL)) d s

/-- VPMAXUW (0x125), `VPMAXUW v1 (k, z), v2, v3/m`: R261. -/
def execVpmaxuw (d : Desc) (s : State) : StepOutcome :=
  runHandler .vecBinary .avxFamily (vecBinary 16 (map2 16 maxuL)) d s

/-- VPMAXUD (0x126), `VPMAXUD v1 (k, z), v2, v3/m`: R261. -/
def execVpmaxud (d : Desc) (s : State) : StepOutcome :=
  runHandler .vecBinary .avxFamily (vecBinary 32 (map2 32 maxuL)) d s

/-- VPMAXUQ (0x127), `VPMAXUQ v1 (k, z), v2, v3/m`: R261. -/
def execVpmaxuq (d : Desc) (s : State) : StepOutcome :=
  runHandler .vecBinary .avxFamily (vecBinary 64 (map2 64 maxuL)) d s

/-- VPSLLW_I (0x128), `VPSLLW v1 (k, z), v2/m, imm8`: R262. -/
def execVpsllwI (d : Desc) (s : State) : StepOutcome :=
  runHandler .vecUnaryByte .avxFamily (vecShift 16 shlL) d s

/-- VPSLLD_I (0x129), `VPSLLD v1 (k, z), v2/m, imm8`: R262. -/
def execVpslldI (d : Desc) (s : State) : StepOutcome :=
  runHandler .vecUnaryByte .avxFamily (vecShift 32 shlL) d s

/-- VPSLLQ_I (0x12A), `VPSLLQ v1 (k, z), v2/m, imm8`: R262. -/
def execVpsllqI (d : Desc) (s : State) : StepOutcome :=
  runHandler .vecUnaryByte .avxFamily (vecShift 64 shlL) d s

/-- VPSRLW_I (0x12B), `VPSRLW v1 (k, z), v2/m, imm8`: R263. -/
def execVpsrlwI (d : Desc) (s : State) : StepOutcome :=
  runHandler .vecUnaryByte .avxFamily (vecShift 16 shrL) d s

/-- VPSRLD_I (0x12C), `VPSRLD v1 (k, z), v2/m, imm8`: R263. -/
def execVpsrldI (d : Desc) (s : State) : StepOutcome :=
  runHandler .vecUnaryByte .avxFamily (vecShift 32 shrL) d s

/-- VPSRLQ_I (0x12D), `VPSRLQ v1 (k, z), v2/m, imm8`: R263. -/
def execVpsrlqI (d : Desc) (s : State) : StepOutcome :=
  runHandler .vecUnaryByte .avxFamily (vecShift 64 shrL) d s

/-- VPSRAW_I (0x12E), `VPSRAW v1 (k, z), v2/m, imm8`: R264. -/
def execVpsrawI (d : Desc) (s : State) : StepOutcome :=
  runHandler .vecUnaryByte .avxFamily (vecShift 16 sarL) d s

/-- VPSRAD_I (0x12F), `VPSRAD v1 (k, z), v2/m, imm8`: R264. -/
def execVpsradI (d : Desc) (s : State) : StepOutcome :=
  runHandler .vecUnaryByte .avxFamily (vecShift 32 sarL) d s

/-- VPSRAQ_I (0x130), `VPSRAQ v1 (k, z), v2/m, imm8`: R264. -/
def execVpsraqI (d : Desc) (s : State) : StepOutcome :=
  runHandler .vecUnaryByte .avxFamily (vecShift 64 sarL) d s

/-- VPSLLVW (0x131), `VPSLLVW v1 (k, z), v2, v3/m`: R265. -/
def execVpsllvw (d : Desc) (s : State) : StepOutcome :=
  runHandler .vecBinary .avxFamily (vecBinary 16 (perElement 16 shlL)) d s

/-- VPSLLVD (0x132), `VPSLLVD v1 (k, z), v2, v3/m`: R265. -/
def execVpsllvd (d : Desc) (s : State) : StepOutcome :=
  runHandler .vecBinary .avxFamily (vecBinary 32 (perElement 32 shlL)) d s

/-- VPSLLVQ (0x133), `VPSLLVQ v1 (k, z), v2, v3/m`: R265. -/
def execVpsllvq (d : Desc) (s : State) : StepOutcome :=
  runHandler .vecBinary .avxFamily (vecBinary 64 (perElement 64 shlL)) d s

/-- VPSRLVW (0x134), `VPSRLVW v1 (k, z), v2, v3/m`: R266. -/
def execVpsrlvw (d : Desc) (s : State) : StepOutcome :=
  runHandler .vecBinary .avxFamily (vecBinary 16 (perElement 16 shrL)) d s

/-- VPSRLVD (0x135), `VPSRLVD v1 (k, z), v2, v3/m`: R266. -/
def execVpsrlvd (d : Desc) (s : State) : StepOutcome :=
  runHandler .vecBinary .avxFamily (vecBinary 32 (perElement 32 shrL)) d s

/-- VPSRLVQ (0x136), `VPSRLVQ v1 (k, z), v2, v3/m`: R266. -/
def execVpsrlvq (d : Desc) (s : State) : StepOutcome :=
  runHandler .vecBinary .avxFamily (vecBinary 64 (perElement 64 shrL)) d s

/-- VPSRAVW (0x137), `VPSRAVW v1 (k, z), v2, v3/m`: R267. -/
def execVpsravw (d : Desc) (s : State) : StepOutcome :=
  runHandler .vecBinary .avxFamily (vecBinary 16 (perElement 16 sarL)) d s

/-- VPSRAVD (0x138), `VPSRAVD v1 (k, z), v2, v3/m`: R267. -/
def execVpsravd (d : Desc) (s : State) : StepOutcome :=
  runHandler .vecBinary .avxFamily (vecBinary 32 (perElement 32 sarL)) d s

/-- VPSRAVQ (0x139), `VPSRAVQ v1 (k, z), v2, v3/m`: R267. -/
def execVpsravq (d : Desc) (s : State) : StepOutcome :=
  runHandler .vecBinary .avxFamily (vecBinary 64 (perElement 64 sarL)) d s

/-- VPSHUFD (0x13A), `VPSHUFD v1 (k, z), v2/m, imm8`: R268. -/
def execVpshufd (d : Desc) (s : State) : StepOutcome :=
  runHandler .vecUnaryByte .avxFamily vpshufdBody d s

/-- VPSHUFB (0x13B), `VPSHUFB v1 (k, z), v2, v3/m`: R269. -/
def execVpshufb (d : Desc) (s : State) : StepOutcome :=
  runHandler .vecBinary .avxFamily (vecBinary 8 pshufb) d s

/-- VMOVDQU8_LD (0x13C), `VMOVDQU8 v1 (k, z), v2/m`: R279. -/
def execVmovdqu8Ld (d : Desc) (s : State) : StepOutcome :=
  runHandler .vecUnary .avxFamily (vmovdquLoad 8) d s

/-- VMOVDQU16_LD (0x13D), `VMOVDQU16 v1 (k, z), v2/m`: R279. -/
def execVmovdqu16Ld (d : Desc) (s : State) : StepOutcome :=
  runHandler .vecUnary .avxFamily (vmovdquLoad 16) d s

/-- VMOVDQU32_LD (0x13E), `VMOVDQU32 v1 (k, z), v2/m`: R279. -/
def execVmovdqu32Ld (d : Desc) (s : State) : StepOutcome :=
  runHandler .vecUnary .avxFamily (vmovdquLoad 32) d s

/-- VMOVDQU64_LD (0x13F), `VMOVDQU64 v1 (k, z), v2/m`: R279. -/
def execVmovdqu64Ld (d : Desc) (s : State) : StepOutcome :=
  runHandler .vecUnary .avxFamily (vmovdquLoad 64) d s

/-- VMOVDQU8_ST (0x140), `VMOVDQU8 m (k), v1`: R279. -/
def execVmovdqu8St (d : Desc) (s : State) : StepOutcome :=
  runHandler .vecStore .avxFamily (vmovdquStore 8) d s

/-- VMOVDQU16_ST (0x141), `VMOVDQU16 m (k), v1`: R279. -/
def execVmovdqu16St (d : Desc) (s : State) : StepOutcome :=
  runHandler .vecStore .avxFamily (vmovdquStore 16) d s

/-- VMOVDQU32_ST (0x142), `VMOVDQU32 m (k), v1`: R279. -/
def execVmovdqu32St (d : Desc) (s : State) : StepOutcome :=
  runHandler .vecStore .avxFamily (vmovdquStore 32) d s

/-- VMOVDQU64_ST (0x143), `VMOVDQU64 m (k), v1`: R279. -/
def execVmovdqu64St (d : Desc) (s : State) : StepOutcome :=
  runHandler .vecStore .avxFamily (vmovdquStore 64) d s

end Sys2Proof.Machine
end

