-- ==== Sys2Proof/Machine/Avx512.lean ====
section
/-! DEFINITION. AVX-512 compare to mask, compress, expand, permute, align, opmask moves (spec/45_avx512.md). -/

namespace Sys2Proof.Machine

/-- R290, R291: the write mask is read before the destination is written, and a bit of 0 forces the result bit to 0. -/
def maskCompare (w : Nat) (pred : BitVec 3 → BitVec w → BitVec w → Bool) (d : Desc) (s : State) : Access Unit :=
  (s.srcV d.vlBits d d.src2).bind fun b s₁ =>
    let m := cmpMask w (pred d.predicate) d.vlBits (lowBits d.vlBits (s.vreg d.src1.toNat)) b
    .ok () (s₁.setKreg d.dst.toNat (m &&& s.maskBits d (d.vlBits / w)))

/-- R292: the selected elements packed toward element 0, into a register or, contiguous, into memory. -/
def compressBody (w : Nat) (d : Desc) (s : State) : Access Unit :=
  let src := lowBits d.vlBits (s.vreg d.src2.toNat)
  let k := s.maskBits d (d.vlBits / w)
  let sel := s.selectedOf w d
  if d.memform then
    s.writeElements w (sel.zipIdx.map fun e => (elementAddr w d.addr e.2, lane w src e.1))
  else
    .ok () (s.maskedWriteWith w (lowOnes 64 sel.length) (compress w k (d.vlBits / w) src) d)

/-- R293: consecutive low elements of the source spread to the positions the mask selects. From memory under a mask, only
the first `popcnt(k)` elements are read, one access each. -/
def expandBody (w : Nat) (d : Desc) (s : State) : Access Unit :=
  let k := s.maskBits d (d.vlBits / w)
  let n := (s.selectedOf w d).length
  if d.memform && d.opmask != 0#3 then
    (s.readElements w ((List.range n).map (elementAddr w d.addr))).bind fun es s₁ =>
      .ok () (s₁.maskedWrite w (scatter w k (d.vlBits / w) es) d)
  else
    (s.srcV d.vlBits d d.src2).bind fun b s₁ =>
      .ok () (s₁.maskedWrite w (scatter w k (d.vlBits / w) ((List.range n).map (lane w b))) d)

/-- R295: `src1` is the high half of the concatenation. -/
def valignBody (w : Nat) (d : Desc) (s : State) : Access Unit :=
  vecBinary w (valign w d.imm8) d s

/-- R296: a general register to an opmask register, `b` bits. -/
def kmovToMask (b : Nat) (d : Desc) (s : State) : Access Unit :=
  .ok () (s.setKreg d.dst.toNat ((s.x b d.src1).setWidth 64))

/-- R296: an opmask register to a general register written at width `w`, `b` bits. -/
def kmovToGpr (b w : Nat) (d : Desc) (s : State) : Access Unit :=
  .ok () (s.setX d.dst (((s.kreg d.src1.toNat).setWidth b).setWidth w))

/-! The handlers. -/

/-- VPCMPB (0x180), `VPCMPB k1 (k2), v2, v3/m, imm8`: R290. -/
def execVpcmpb (d : Desc) (s : State) : StepOutcome :=
  runHandler .maskCompare (.family .avx512) (maskCompare 8 avx512CompareS) d s

/-- VPCMPW (0x181), `VPCMPW k1 (k2), v2, v3/m, imm8`: R290. -/
def execVpcmpw (d : Desc) (s : State) : StepOutcome :=
  runHandler .maskCompare (.family .avx512) (maskCompare 16 avx512CompareS) d s

/-- VPCMPD (0x182), `VPCMPD k1 (k2), v2, v3/m, imm8`: R290. -/
def execVpcmpd (d : Desc) (s : State) : StepOutcome :=
  runHandler .maskCompare (.family .avx512) (maskCompare 32 avx512CompareS) d s

/-- VPCMPQ (0x183), `VPCMPQ k1 (k2), v2, v3/m, imm8`: R290. -/
def execVpcmpq (d : Desc) (s : State) : StepOutcome :=
  runHandler .maskCompare (.family .avx512) (maskCompare 64 avx512CompareS) d s

/-- VPCMPUB (0x184), `VPCMPUB k1 (k2), v2, v3/m, imm8`: R291. -/
def execVpcmpub (d : Desc) (s : State) : StepOutcome :=
  runHandler .maskCompare (.family .avx512) (maskCompare 8 avx512CompareU) d s

/-- VPCMPUW (0x185), `VPCMPUW k1 (k2), v2, v3/m, imm8`: R291. -/
def execVpcmpuw (d : Desc) (s : State) : StepOutcome :=
  runHandler .maskCompare (.family .avx512) (maskCompare 16 avx512CompareU) d s

/-- VPCMPUD (0x186), `VPCMPUD k1 (k2), v2, v3/m, imm8`: R291. -/
def execVpcmpud (d : Desc) (s : State) : StepOutcome :=
  runHandler .maskCompare (.family .avx512) (maskCompare 32 avx512CompareU) d s

/-- VPCMPUQ (0x187), `VPCMPUQ k1 (k2), v2, v3/m, imm8`: R291. -/
def execVpcmpuq (d : Desc) (s : State) : StepOutcome :=
  runHandler .maskCompare (.family .avx512) (maskCompare 64 avx512CompareU) d s

/-- VPCOMPRESSB (0x188), `VPCOMPRESSB v1/m (k, z), v2`: R292. -/
def execVpcompressb (d : Desc) (s : State) : StepOutcome :=
  runHandler .compress (.family .avx512) (compressBody 8) d s

/-- VPCOMPRESSW (0x189), `VPCOMPRESSW v1/m (k, z), v2`: R292. -/
def execVpcompressw (d : Desc) (s : State) : StepOutcome :=
  runHandler .compress (.family .avx512) (compressBody 16) d s

/-- VPCOMPRESSD (0x18A), `VPCOMPRESSD v1/m (k, z), v2`: R292. -/
def execVpcompressd (d : Desc) (s : State) : StepOutcome :=
  runHandler .compress (.family .avx512) (compressBody 32) d s

/-- VPCOMPRESSQ (0x18B), `VPCOMPRESSQ v1/m (k, z), v2`: R292. -/
def execVpcompressq (d : Desc) (s : State) : StepOutcome :=
  runHandler .compress (.family .avx512) (compressBody 64) d s

/-- VPEXPANDB (0x18C), `VPEXPANDB v1 (k, z), v2/m`: R293. -/
def execVpexpandb (d : Desc) (s : State) : StepOutcome :=
  runHandler .vecUnary (.family .avx512) (expandBody 8) d s

/-- VPEXPANDW (0x18D), `VPEXPANDW v1 (k, z), v2/m`: R293. -/
def execVpexpandw (d : Desc) (s : State) : StepOutcome :=
  runHandler .vecUnary (.family .avx512) (expandBody 16) d s

/-- VPEXPANDD (0x18E), `VPEXPANDD v1 (k, z), v2/m`: R293. -/
def execVpexpandd (d : Desc) (s : State) : StepOutcome :=
  runHandler .vecUnary (.family .avx512) (expandBody 32) d s

/-- VPEXPANDQ (0x18F), `VPEXPANDQ v1 (k, z), v2/m`: R293. -/
def execVpexpandq (d : Desc) (s : State) : StepOutcome :=
  runHandler .vecUnary (.family .avx512) (expandBody 64) d s

/-- VPERMB (0x190), `VPERMB v1 (k, z), v2, v3/m`: R294. -/
def execVpermb (d : Desc) (s : State) : StepOutcome :=
  runHandler .vecBinary (.family .avx512) (vecBinary 8 (vperm 8)) d s

/-- VPERMW (0x191), `VPERMW v1 (k, z), v2, v3/m`: R294. -/
def execVpermw (d : Desc) (s : State) : StepOutcome :=
  runHandler .vecBinary (.family .avx512) (vecBinary 16 (vperm 16)) d s

/-- VPERMD (0x192), `VPERMD v1 (k, z), v2, v3/m`: R294. -/
def execVpermd (d : Desc) (s : State) : StepOutcome :=
  runHandler .vecBinary (.family .avx512) (vecBinary 32 (vperm 32)) d s

/-- VPERMQ (0x193), `VPERMQ v1 (k, z), v2, v3/m`: R294. -/
def execVpermq (d : Desc) (s : State) : StepOutcome :=
  runHandler .vecBinary (.family .avx512) (vecBinary 64 (vperm 64)) d s

/-- VALIGND (0x194), `VALIGND v1 (k, z), v2, v3/m, imm8`: R295. -/
def execValignd (d : Desc) (s : State) : StepOutcome :=
  runHandler .vecBinaryByte (.family .avx512) (valignBody 32) d s

/-- VALIGNQ (0x195), `VALIGNQ v1 (k, z), v2, v3/m, imm8`: R295. -/
def execValignq (d : Desc) (s : State) : StepOutcome :=
  runHandler .vecBinaryByte (.family .avx512) (valignBody 64) d s

/-- KMOVB_KG (0x196), `KMOVB k1, r32`: R296. -/
def execKmovbKg (d : Desc) (s : State) : StepOutcome :=
  runHandler .kmovToMask (.family .avx512) (kmovToMask 8) d s

/-- KMOVW_KG (0x197), `KMOVW k1, r32`: R296. -/
def execKmovwKg (d : Desc) (s : State) : StepOutcome :=
  runHandler .kmovToMask (.family .avx512) (kmovToMask 16) d s

/-- KMOVD_KG (0x198), `KMOVD k1, r32`: R296. -/
def execKmovdKg (d : Desc) (s : State) : StepOutcome :=
  runHandler .kmovToMask (.family .avx512) (kmovToMask 32) d s

/-- KMOVQ_KG (0x199), `KMOVQ k1, r64`: R296. -/
def execKmovqKg (d : Desc) (s : State) : StepOutcome :=
  runHandler .kmovToMask (.family .avx512) (kmovToMask 64) d s

/-- KMOVB_GK (0x19A), `KMOVB r32, k1`: R296. -/
def execKmovbGk (d : Desc) (s : State) : StepOutcome :=
  runHandler .kmovToGpr (.family .avx512) (kmovToGpr 8 32) d s

/-- KMOVW_GK (0x19B), `KMOVW r32, k1`: R296. -/
def execKmovwGk (d : Desc) (s : State) : StepOutcome :=
  runHandler .kmovToGpr (.family .avx512) (kmovToGpr 16 32) d s

/-- KMOVD_GK (0x19C), `KMOVD r32, k1`: R296. -/
def execKmovdGk (d : Desc) (s : State) : StepOutcome :=
  runHandler .kmovToGpr (.family .avx512) (kmovToGpr 32 32) d s

/-- KMOVQ_GK (0x19D), `KMOVQ r64, k1`: R296. -/
def execKmovqGk (d : Desc) (s : State) : StepOutcome :=
  runHandler .kmovToGpr (.family .avx512) (kmovToGpr 64 64) d s

end Sys2Proof.Machine
end

