-- ==== Sys2Proof/Machine/BitOps.lean ====
section
/-! DEFINITION. Bit test, bit scan and bit count (spec/41_bitops.md). -/

namespace Sys2Proof.Machine

/-- R190 to R193: the bit is tested, and where `new` gives one, the word that holds it is replaced. Every operand is read
before the write (R88, R180). -/
def bitTest (w : Nat) (o : BitOffset) (new : BitVec w → Nat → Option (BitVec w)) (d : Desc) (s : State) : Access Unit :=
  (s.bitBase w o d).bind fun base s₁ =>
    let bit := s.bitIndex w o d
    let flags := bitTestFlags (base.getLsbD bit)
    match new base bit with
    | none => .ok () (s₁.writeFlags flags)
    | some v =>
      if d.memform then
        (s₁.memWrite (s.bitAddress w o d) (w / 8) (v.setWidth 512)).bind fun _ s₂ => .ok () (s₂.writeFlags flags)
      else .ok () ((s₁.setX d.dst v).writeFlags flags)

/-- R190: BT writes no word. -/
def btNew {w : Nat} (_ : BitVec w) (_ : Nat) : Option (BitVec w) := none
/-- R191. -/
def btsNew {w : Nat} (base : BitVec w) (bit : Nat) : Option (BitVec w) := some (base ||| 1#w <<< bit)
/-- R192. -/
def btrNew {w : Nat} (base : BitVec w) (bit : Nat) : Option (BitVec w) := some (base &&& ~~~ (1#w <<< bit))
/-- R193. -/
def btcNew {w : Nat} (base : BitVec w) (bit : Nat) : Option (BitVec w) := some (base ^^^ 1#w <<< bit)

/-- R194, R195: with a zero source the destination is not written; `index` is the bit index of a non-zero source. -/
def bitScan (w : Nat) (index : BitVec w → Nat) (d : Desc) (s : State) : Access Unit :=
  (s.srcG w d d.src1).bind fun src s₁ =>
    if src = 0#w then .ok () (s₁.writeFlags (zfOnly true))
    else .ok () ((s₁.setX d.dst (BitVec.ofNat w (index src))).writeFlags (zfOnly false))

/-- R195: the index of the most significant 1 bit. -/
def msbIndex {w : Nat} (x : BitVec w) : Nat :=
  w - 1 - lzcnt x

/-- R196. -/
def popcntBody (w : Nat) (d : Desc) (s : State) : Access Unit :=
  (s.srcG w d d.src1).bind fun src s₁ =>
    .ok () ((s₁.setX d.dst (BitVec.ofNat w (popcnt src))).writeFlags (popcntFlags (src == 0#w)))

/-- R197, R198: the count is written also for a zero source, where it is `w`. -/
def countBody (w : Nat) (count : BitVec w → Nat) (d : Desc) (s : State) : Access Unit :=
  (s.srcG w d d.src1).bind fun src s₁ =>
    let res := BitVec.ofNat w (count src)
    .ok () ((s₁.setX d.dst res).writeFlags (countFlags (src == 0#w) (res == 0#w)))

/-! The handlers. -/

/-- BT16_G (0x010), `BT r/m16, r16`: R190. -/
def execBt16G (d : Desc) (s : State) : StepOutcome :=
  runHandler .bitTestReg (.family .bitops) (bitTest 16 .reg btNew) d s

/-- BT16_I (0x011), `BT r/m16, imm8`: R190. -/
def execBt16I (d : Desc) (s : State) : StepOutcome :=
  runHandler .bitTestImm (.family .bitops) (bitTest 16 .imm btNew) d s

/-- BT32_G (0x012), `BT r/m32, r32`: R190. -/
def execBt32G (d : Desc) (s : State) : StepOutcome :=
  runHandler .bitTestReg (.family .bitops) (bitTest 32 .reg btNew) d s

/-- BT32_I (0x013), `BT r/m32, imm8`: R190. -/
def execBt32I (d : Desc) (s : State) : StepOutcome :=
  runHandler .bitTestImm (.family .bitops) (bitTest 32 .imm btNew) d s

/-- BT64_G (0x014), `BT r/m64, r64`: R190. -/
def execBt64G (d : Desc) (s : State) : StepOutcome :=
  runHandler .bitTestReg (.family .bitops) (bitTest 64 .reg btNew) d s

/-- BT64_I (0x015), `BT r/m64, imm8`: R190. -/
def execBt64I (d : Desc) (s : State) : StepOutcome :=
  runHandler .bitTestImm (.family .bitops) (bitTest 64 .imm btNew) d s

/-- BTS16_G (0x016), `BTS r/m16, r16`: R191. -/
def execBts16G (d : Desc) (s : State) : StepOutcome :=
  runHandler .bitTestReg (.family .bitops) (bitTest 16 .reg btsNew) d s

/-- BTS16_I (0x017), `BTS r/m16, imm8`: R191. -/
def execBts16I (d : Desc) (s : State) : StepOutcome :=
  runHandler .bitTestImm (.family .bitops) (bitTest 16 .imm btsNew) d s

/-- BTS32_G (0x018), `BTS r/m32, r32`: R191. -/
def execBts32G (d : Desc) (s : State) : StepOutcome :=
  runHandler .bitTestReg (.family .bitops) (bitTest 32 .reg btsNew) d s

/-- BTS32_I (0x019), `BTS r/m32, imm8`: R191. -/
def execBts32I (d : Desc) (s : State) : StepOutcome :=
  runHandler .bitTestImm (.family .bitops) (bitTest 32 .imm btsNew) d s

/-- BTS64_G (0x01A), `BTS r/m64, r64`: R191. -/
def execBts64G (d : Desc) (s : State) : StepOutcome :=
  runHandler .bitTestReg (.family .bitops) (bitTest 64 .reg btsNew) d s

/-- BTS64_I (0x01B), `BTS r/m64, imm8`: R191. -/
def execBts64I (d : Desc) (s : State) : StepOutcome :=
  runHandler .bitTestImm (.family .bitops) (bitTest 64 .imm btsNew) d s

/-- BTR16_G (0x01C), `BTR r/m16, r16`: R192. -/
def execBtr16G (d : Desc) (s : State) : StepOutcome :=
  runHandler .bitTestReg (.family .bitops) (bitTest 16 .reg btrNew) d s

/-- BTR16_I (0x01D), `BTR r/m16, imm8`: R192. -/
def execBtr16I (d : Desc) (s : State) : StepOutcome :=
  runHandler .bitTestImm (.family .bitops) (bitTest 16 .imm btrNew) d s

/-- BTR32_G (0x01E), `BTR r/m32, r32`: R192. -/
def execBtr32G (d : Desc) (s : State) : StepOutcome :=
  runHandler .bitTestReg (.family .bitops) (bitTest 32 .reg btrNew) d s

/-- BTR32_I (0x01F), `BTR r/m32, imm8`: R192. -/
def execBtr32I (d : Desc) (s : State) : StepOutcome :=
  runHandler .bitTestImm (.family .bitops) (bitTest 32 .imm btrNew) d s

/-- BTR64_G (0x020), `BTR r/m64, r64`: R192. -/
def execBtr64G (d : Desc) (s : State) : StepOutcome :=
  runHandler .bitTestReg (.family .bitops) (bitTest 64 .reg btrNew) d s

/-- BTR64_I (0x021), `BTR r/m64, imm8`: R192. -/
def execBtr64I (d : Desc) (s : State) : StepOutcome :=
  runHandler .bitTestImm (.family .bitops) (bitTest 64 .imm btrNew) d s

/-- BTC16_G (0x022), `BTC r/m16, r16`: R193. -/
def execBtc16G (d : Desc) (s : State) : StepOutcome :=
  runHandler .bitTestReg (.family .bitops) (bitTest 16 .reg btcNew) d s

/-- BTC16_I (0x023), `BTC r/m16, imm8`: R193. -/
def execBtc16I (d : Desc) (s : State) : StepOutcome :=
  runHandler .bitTestImm (.family .bitops) (bitTest 16 .imm btcNew) d s

/-- BTC32_G (0x024), `BTC r/m32, r32`: R193. -/
def execBtc32G (d : Desc) (s : State) : StepOutcome :=
  runHandler .bitTestReg (.family .bitops) (bitTest 32 .reg btcNew) d s

/-- BTC32_I (0x025), `BTC r/m32, imm8`: R193. -/
def execBtc32I (d : Desc) (s : State) : StepOutcome :=
  runHandler .bitTestImm (.family .bitops) (bitTest 32 .imm btcNew) d s

/-- BTC64_G (0x026), `BTC r/m64, r64`: R193. -/
def execBtc64G (d : Desc) (s : State) : StepOutcome :=
  runHandler .bitTestReg (.family .bitops) (bitTest 64 .reg btcNew) d s

/-- BTC64_I (0x027), `BTC r/m64, imm8`: R193. -/
def execBtc64I (d : Desc) (s : State) : StepOutcome :=
  runHandler .bitTestImm (.family .bitops) (bitTest 64 .imm btcNew) d s

/-- BSF16 (0x028), `BSF r16, r/m16`: R194. -/
def execBsf16 (d : Desc) (s : State) : StepOutcome :=
  runHandler .gprUnary (.family .bitops) (bitScan 16 tzcnt) d s

/-- BSF32 (0x029), `BSF r32, r/m32`: R194. -/
def execBsf32 (d : Desc) (s : State) : StepOutcome :=
  runHandler .gprUnary (.family .bitops) (bitScan 32 tzcnt) d s

/-- BSF64 (0x02A), `BSF r64, r/m64`: R194. -/
def execBsf64 (d : Desc) (s : State) : StepOutcome :=
  runHandler .gprUnary (.family .bitops) (bitScan 64 tzcnt) d s

/-- BSR16 (0x02B), `BSR r16, r/m16`: R195. -/
def execBsr16 (d : Desc) (s : State) : StepOutcome :=
  runHandler .gprUnary (.family .bitops) (bitScan 16 msbIndex) d s

/-- BSR32 (0x02C), `BSR r32, r/m32`: R195. -/
def execBsr32 (d : Desc) (s : State) : StepOutcome :=
  runHandler .gprUnary (.family .bitops) (bitScan 32 msbIndex) d s

/-- BSR64 (0x02D), `BSR r64, r/m64`: R195. -/
def execBsr64 (d : Desc) (s : State) : StepOutcome :=
  runHandler .gprUnary (.family .bitops) (bitScan 64 msbIndex) d s

/-- POPCNT16 (0x02E), `POPCNT r16, r/m16`: R196. -/
def execPopcnt16 (d : Desc) (s : State) : StepOutcome :=
  runHandler .gprUnary (.family .popcnt) (popcntBody 16) d s

/-- POPCNT32 (0x02F), `POPCNT r32, r/m32`: R196. -/
def execPopcnt32 (d : Desc) (s : State) : StepOutcome :=
  runHandler .gprUnary (.family .popcnt) (popcntBody 32) d s

/-- POPCNT64 (0x030), `POPCNT r64, r/m64`: R196. -/
def execPopcnt64 (d : Desc) (s : State) : StepOutcome :=
  runHandler .gprUnary (.family .popcnt) (popcntBody 64) d s

/-- TZCNT16 (0x031), `TZCNT r16, r/m16`: R197. -/
def execTzcnt16 (d : Desc) (s : State) : StepOutcome :=
  runHandler .gprUnary (.family .bmi1) (countBody 16 tzcnt) d s

/-- TZCNT32 (0x032), `TZCNT r32, r/m32`: R197. -/
def execTzcnt32 (d : Desc) (s : State) : StepOutcome :=
  runHandler .gprUnary (.family .bmi1) (countBody 32 tzcnt) d s

/-- TZCNT64 (0x033), `TZCNT r64, r/m64`: R197. -/
def execTzcnt64 (d : Desc) (s : State) : StepOutcome :=
  runHandler .gprUnary (.family .bmi1) (countBody 64 tzcnt) d s

/-- LZCNT16 (0x034), `LZCNT r16, r/m16`: R198. -/
def execLzcnt16 (d : Desc) (s : State) : StepOutcome :=
  runHandler .gprUnary (.family .lzcnt) (countBody 16 lzcnt) d s

/-- LZCNT32 (0x035), `LZCNT r32, r/m32`: R198. -/
def execLzcnt32 (d : Desc) (s : State) : StepOutcome :=
  runHandler .gprUnary (.family .lzcnt) (countBody 32 lzcnt) d s

/-- LZCNT64 (0x036), `LZCNT r64, r/m64`: R198. -/
def execLzcnt64 (d : Desc) (s : State) : StepOutcome :=
  runHandler .gprUnary (.family .lzcnt) (countBody 64 lzcnt) d s

end Sys2Proof.Machine
end

