-- ==== Sys2Proof/Machine/Bmi.lean ====
section
/-! DEFINITION. BMI1 and BMI2 (spec/42_bmi.md). -/

namespace Sys2Proof.Machine

/-- R223, R240: the result written at width `w` and the flags of a logical result, with the carry the rule gives. -/
def State.logicResult (s : State) {w : Nat} (d : Desc) (res : BitVec w) (cf : Bool) : State :=
  (s.setX d.dst res).writeFlags (logicFlags res cf)

/-- R210: the first source is the one complemented. -/
def andnBody (w : Nat) (d : Desc) (s : State) : Access Unit :=
  (s.srcG w d d.src2).bind fun b s₁ => .ok () (s₁.logicResult d (~~~ (s.x w d.src1) &&& b) false)

/-- R211: the control is a register. -/
def bextrBody (w : Nat) (d : Desc) (s : State) : Access Unit :=
  (s.srcG w d d.src1).bind fun v s₁ =>
    let c := s.x w d.src2
    .ok () (s₁.logicResult d (bextr v (c.extractLsb' 0 8) (c.extractLsb' 8 8)) false)

/-- R212 to R214, R231 to R239: a function of one source and a carry condition on it. -/
def sourceBody (w : Nat) (f : BitVec w → BitVec w) (cf : BitVec w → Bool) (d : Desc) (s : State) : Access Unit :=
  (s.srcG w d d.src1).bind fun v s₁ => .ok () (s₁.logicResult d (f v) (cf v))

/-- R213, R214, R240: `s = 0`, the borrow of `s - 1`. -/
def carryZero {w : Nat} (v : BitVec w) : Bool := v == 0#w
/-- R212: `s != 0`. -/
def carryNonZero {w : Nat} (v : BitVec w) : Bool := v != 0#w

/-- R212. -/
def blsiF {w : Nat} (v : BitVec w) : BitVec w := (0#w - v) &&& v
/-- R213. -/
def blsmskF {w : Nat} (v : BitVec w) : BitVec w := (v - 1#w) ^^^ v
/-- R214. -/
def blsrF {w : Nat} (v : BitVec w) : BitVec w := (v - 1#w) &&& v

/-- R215: the index is the low 8 bits of a register; CF says that it is out of range. -/
def bzhiBody (w : Nat) (d : Desc) (s : State) : Access Unit :=
  (s.srcG w d d.src1).bind fun v s₁ =>
    let n := (s.x 8 d.src2).toNat
    .ok () (if n < w then s₁.logicResult d (v &&& lowOnes w n) false else s₁.logicResult d v true)

/-- R216: the low half is written first, then the high half; no flag. -/
def mulxBody (w : Nat) (d : Desc) (s : State) : Access Unit :=
  (s.srcG w d d.src2).bind fun b s₁ =>
    let p := (s.x w 2#5).toNat * b.toNat
    .ok () ((s₁.setX d.src1 (BitVec.ofNat w p)).setX d.dst (BitVec.ofNat w (p / 2 ^ w)))

/-- R217, R218: value in a register, mask in the second source; no flag. -/
def depositBody (w : Nat) (f : BitVec w → BitVec w → BitVec w) (d : Desc) (s : State) : Access Unit :=
  (s.srcG w d d.src2).bind fun m s₁ => .ok () (s₁.setX d.dst (f (s.x w d.src1) m))

/-- R219: rotate right by a count. -/
def rotr {w : Nat} (v : BitVec w) (c : Nat) : BitVec w :=
  if c = 0 then v else v >>> c ||| v <<< (w - c)

/-- R219: no flag. -/
def rorxBody (w : Nat) (d : Desc) (s : State) : Access Unit :=
  (s.srcG w d d.src1).bind fun v s₁ => .ok () (s₁.setX d.dst (rotr v (d.imm8.toNat % w)))

/-- R220 to R222: a shift by a register count taken modulo `w`; no flag. -/
def shiftBody (w : Nat) (f : BitVec w → Nat → BitVec w) (d : Desc) (s : State) : Access Unit :=
  (s.srcG w d d.src1).bind fun v s₁ => .ok () (s₁.setX d.dst (f v ((s.x w d.src2).toNat % w)))

/-- R220. -/
def sarxF {w : Nat} (v : BitVec w) (c : Nat) : BitVec w := v.sshiftRight c
/-- R221. -/
def shlxF {w : Nat} (v : BitVec w) (c : Nat) : BitVec w := v <<< c
/-- R222. -/
def shrxF {w : Nat} (v : BitVec w) (c : Nat) : BitVec w := v >>> c

/-! The handlers. -/

/-- ANDN32 (0x040), `ANDN r32, r32, r/m32`: R210. -/
def execAndn32 (d : Desc) (s : State) : StepOutcome :=
  runHandler .gprValueSecond (.family .bmi1) (andnBody 32) d s

/-- ANDN64 (0x041), `ANDN r64, r64, r/m64`: R210. -/
def execAndn64 (d : Desc) (s : State) : StepOutcome :=
  runHandler .gprValueSecond (.family .bmi1) (andnBody 64) d s

/-- BEXTR32 (0x042), `BEXTR r32, r/m32, r32`: R211. -/
def execBextr32 (d : Desc) (s : State) : StepOutcome :=
  runHandler .gprValueFirst (.family .bmi1) (bextrBody 32) d s

/-- BEXTR64 (0x043), `BEXTR r64, r/m64, r64`: R211. -/
def execBextr64 (d : Desc) (s : State) : StepOutcome :=
  runHandler .gprValueFirst (.family .bmi1) (bextrBody 64) d s

/-- BLSI32 (0x044), `BLSI r32, r/m32`: R212. -/
def execBlsi32 (d : Desc) (s : State) : StepOutcome :=
  runHandler .gprUnary (.family .bmi1) (sourceBody 32 blsiF carryNonZero) d s

/-- BLSI64 (0x045), `BLSI r64, r/m64`: R212. -/
def execBlsi64 (d : Desc) (s : State) : StepOutcome :=
  runHandler .gprUnary (.family .bmi1) (sourceBody 64 blsiF carryNonZero) d s

/-- BLSMSK32 (0x046), `BLSMSK r32, r/m32`: R213. -/
def execBlsmsk32 (d : Desc) (s : State) : StepOutcome :=
  runHandler .gprUnary (.family .bmi1) (sourceBody 32 blsmskF carryZero) d s

/-- BLSMSK64 (0x047), `BLSMSK r64, r/m64`: R213. -/
def execBlsmsk64 (d : Desc) (s : State) : StepOutcome :=
  runHandler .gprUnary (.family .bmi1) (sourceBody 64 blsmskF carryZero) d s

/-- BLSR32 (0x048), `BLSR r32, r/m32`: R214. -/
def execBlsr32 (d : Desc) (s : State) : StepOutcome :=
  runHandler .gprUnary (.family .bmi1) (sourceBody 32 blsrF carryZero) d s

/-- BLSR64 (0x049), `BLSR r64, r/m64`: R214. -/
def execBlsr64 (d : Desc) (s : State) : StepOutcome :=
  runHandler .gprUnary (.family .bmi1) (sourceBody 64 blsrF carryZero) d s

/-- BZHI32 (0x04A), `BZHI r32, r/m32, r32`: R215. -/
def execBzhi32 (d : Desc) (s : State) : StepOutcome :=
  runHandler .gprValueFirst (.family .bmi2) (bzhiBody 32) d s

/-- BZHI64 (0x04B), `BZHI r64, r/m64, r64`: R215. -/
def execBzhi64 (d : Desc) (s : State) : StepOutcome :=
  runHandler .gprValueFirst (.family .bmi2) (bzhiBody 64) d s

/-- MULX32 (0x04C), `MULX r32hi, r32lo, r/m32`: R216. -/
def execMulx32 (d : Desc) (s : State) : StepOutcome :=
  runHandler .gprValueSecond (.family .bmi2) (mulxBody 32) d s

/-- MULX64 (0x04D), `MULX r64hi, r64lo, r/m64`: R216. -/
def execMulx64 (d : Desc) (s : State) : StepOutcome :=
  runHandler .gprValueSecond (.family .bmi2) (mulxBody 64) d s

/-- PDEP32 (0x04E), `PDEP r32, r32, r/m32`: R217. -/
def execPdep32 (d : Desc) (s : State) : StepOutcome :=
  runHandler .gprValueSecond (.family .bmi2) (depositBody 32 pdep) d s

/-- PDEP64 (0x04F), `PDEP r64, r64, r/m64`: R217. -/
def execPdep64 (d : Desc) (s : State) : StepOutcome :=
  runHandler .gprValueSecond (.family .bmi2) (depositBody 64 pdep) d s

/-- PEXT32 (0x050), `PEXT r32, r32, r/m32`: R218. -/
def execPext32 (d : Desc) (s : State) : StepOutcome :=
  runHandler .gprValueSecond (.family .bmi2) (depositBody 32 pext) d s

/-- PEXT64 (0x051), `PEXT r64, r64, r/m64`: R218. -/
def execPext64 (d : Desc) (s : State) : StepOutcome :=
  runHandler .gprValueSecond (.family .bmi2) (depositBody 64 pext) d s

/-- RORX32 (0x052), `RORX r32, r/m32, imm8`: R219. -/
def execRorx32 (d : Desc) (s : State) : StepOutcome :=
  runHandler .gprUnaryByte (.family .bmi2) (rorxBody 32) d s

/-- RORX64 (0x053), `RORX r64, r/m64, imm8`: R219. -/
def execRorx64 (d : Desc) (s : State) : StepOutcome :=
  runHandler .gprUnaryByte (.family .bmi2) (rorxBody 64) d s

/-- SARX32 (0x054), `SARX r32, r/m32, r32`: R220. -/
def execSarx32 (d : Desc) (s : State) : StepOutcome :=
  runHandler .gprValueFirst (.family .bmi2) (shiftBody 32 sarxF) d s

/-- SARX64 (0x055), `SARX r64, r/m64, r64`: R220. -/
def execSarx64 (d : Desc) (s : State) : StepOutcome :=
  runHandler .gprValueFirst (.family .bmi2) (shiftBody 64 sarxF) d s

/-- SHLX32 (0x056), `SHLX r32, r/m32, r32`: R221. -/
def execShlx32 (d : Desc) (s : State) : StepOutcome :=
  runHandler .gprValueFirst (.family .bmi2) (shiftBody 32 shlxF) d s

/-- SHLX64 (0x057), `SHLX r64, r/m64, r64`: R221. -/
def execShlx64 (d : Desc) (s : State) : StepOutcome :=
  runHandler .gprValueFirst (.family .bmi2) (shiftBody 64 shlxF) d s

/-- SHRX32 (0x058), `SHRX r32, r/m32, r32`: R222. -/
def execShrx32 (d : Desc) (s : State) : StepOutcome :=
  runHandler .gprValueFirst (.family .bmi2) (shiftBody 32 shrxF) d s

/-- SHRX64 (0x059), `SHRX r64, r/m64, r64`: R222. -/
def execShrx64 (d : Desc) (s : State) : StepOutcome :=
  runHandler .gprValueFirst (.family .bmi2) (shiftBody 64 shrxF) d s

end Sys2Proof.Machine
end

