-- ==== Sys2Proof/Machine/Illegal.lean ====
section
/-! DEFINITION. The reserved handler ILLEGAL (spec/30_encoding.md R119). -/

namespace Sys2Proof.Machine

/-- ILLEGAL (0x000): R119, R352: raises `InvalidOpcode` and changes no state, whatever the other fields hold. -/
def execIllegal (_ : Desc) (s : State) : StepOutcome :=
  .next (s.raise .invalidOpcode)

end Sys2Proof.Machine
end

