-- ==== Sys2Proof/Machine/SimdS.lean ====
section
/-! DEFINITION. Class S: legacy SSE packed integer (spec/44_simd_int.md R245, R250 to R269, R279). Bits 511:128 of the
destination are preserved. -/

namespace Sys2Proof.Machine

/-- R245: `dst` is the first source and the destination, `src2` or memory the second source. -/
def sseBinary (op : PackedOp) (d : Desc) (s : State) : Access Unit :=
  (s.srcV 128 d d.src2).bind fun b s₁ =>
    .ok () (s₁.write128 d.dst (op 128 (lowBits 128 (s.vreg d.dst.toNat)) b))

/-- R262 to R264: the elements of the destination shifted by the immediate, not reduced. -/
def sseShift (w : Nat) (f : BitVec w → Nat → BitVec w) (d : Desc) (s : State) : Access Unit :=
  .ok () (s.write128 d.dst (map1 w (fun e => f e d.imm8.toNat) 128 (lowBits 128 (s.vreg d.dst.toNat))))

/-- R268: the destination is not a source. -/
def pshufdBody (d : Desc) (s : State) : Access Unit :=
  (s.srcV 128 d d.src2).bind fun b s₁ => .ok () (s₁.write128 d.dst (pshufd d.imm8 128 b))

/-- R279: MOVDQU load. -/
def movdquLoad (d : Desc) (s : State) : Access Unit :=
  (s.srcV 128 d d.src2).bind fun b s₁ => .ok () (s₁.write128 d.dst b)

/-- R279: MOVDQU store. -/
def movdquStore (d : Desc) (s : State) : Access Unit :=
  s.memWrite d.addr 16 (lowBits 128 (s.vreg d.src2.toNat))

/-! The handlers. -/

/-- PADDB (0x080), `PADDB xmm1, xmm2/m128`: R250. -/
def execPaddb (d : Desc) (s : State) : StepOutcome :=
  runHandler .sseBinary (.family .sse) (sseBinary (map2 8 addL)) d s

/-- PADDW (0x081), `PADDW xmm1, xmm2/m128`: R250. -/
def execPaddw (d : Desc) (s : State) : StepOutcome :=
  runHandler .sseBinary (.family .sse) (sseBinary (map2 16 addL)) d s

/-- PADDD (0x082), `PADDD xmm1, xmm2/m128`: R250. -/
def execPaddd (d : Desc) (s : State) : StepOutcome :=
  runHandler .sseBinary (.family .sse) (sseBinary (map2 32 addL)) d s

/-- PADDQ (0x083), `PADDQ xmm1, xmm2/m128`: R250. -/
def execPaddq (d : Desc) (s : State) : StepOutcome :=
  runHandler .sseBinary (.family .sse) (sseBinary (map2 64 addL)) d s

/-- PSUBB (0x084), `PSUBB xmm1, xmm2/m128`: R251. -/
def execPsubb (d : Desc) (s : State) : StepOutcome :=
  runHandler .sseBinary (.family .sse) (sseBinary (map2 8 subL)) d s

/-- PSUBW (0x085), `PSUBW xmm1, xmm2/m128`: R251. -/
def execPsubw (d : Desc) (s : State) : StepOutcome :=
  runHandler .sseBinary (.family .sse) (sseBinary (map2 16 subL)) d s

/-- PSUBD (0x086), `PSUBD xmm1, xmm2/m128`: R251. -/
def execPsubd (d : Desc) (s : State) : StepOutcome :=
  runHandler .sseBinary (.family .sse) (sseBinary (map2 32 subL)) d s

/-- PSUBQ (0x087), `PSUBQ xmm1, xmm2/m128`: R251. -/
def execPsubq (d : Desc) (s : State) : StepOutcome :=
  runHandler .sseBinary (.family .sse) (sseBinary (map2 64 subL)) d s

/-- PAND (0x088), `PAND xmm1, xmm2/m128`: R252. -/
def execPand (d : Desc) (s : State) : StepOutcome :=
  runHandler .sseBinary (.family .sse) (sseBinary andP) d s

/-- PANDN (0x089), `PANDN xmm1, xmm2/m128`: R253. -/
def execPandn (d : Desc) (s : State) : StepOutcome :=
  runHandler .sseBinary (.family .sse) (sseBinary andnP) d s

/-- POR (0x08A), `POR xmm1, xmm2/m128`: R254. -/
def execPor (d : Desc) (s : State) : StepOutcome :=
  runHandler .sseBinary (.family .sse) (sseBinary orP) d s

/-- PXOR (0x08B), `PXOR xmm1, xmm2/m128`: R255. -/
def execPxor (d : Desc) (s : State) : StepOutcome :=
  runHandler .sseBinary (.family .sse) (sseBinary xorP) d s

/-- PCMPEQB (0x08C), `PCMPEQB xmm1, xmm2/m128`: R256. -/
def execPcmpeqb (d : Desc) (s : State) : StepOutcome :=
  runHandler .sseBinary (.family .sse) (sseBinary (cmpLanes 8 eqP)) d s

/-- PCMPEQW (0x08D), `PCMPEQW xmm1, xmm2/m128`: R256. -/
def execPcmpeqw (d : Desc) (s : State) : StepOutcome :=
  runHandler .sseBinary (.family .sse) (sseBinary (cmpLanes 16 eqP)) d s

/-- PCMPEQD (0x08E), `PCMPEQD xmm1, xmm2/m128`: R256. -/
def execPcmpeqd (d : Desc) (s : State) : StepOutcome :=
  runHandler .sseBinary (.family .sse) (sseBinary (cmpLanes 32 eqP)) d s

/-- PCMPEQQ (0x08F), `PCMPEQQ xmm1, xmm2/m128`: R256. -/
def execPcmpeqq (d : Desc) (s : State) : StepOutcome :=
  runHandler .sseBinary (.family .sse) (sseBinary (cmpLanes 64 eqP)) d s

/-- PCMPGTB (0x090), `PCMPGTB xmm1, xmm2/m128`: R257. -/
def execPcmpgtb (d : Desc) (s : State) : StepOutcome :=
  runHandler .sseBinary (.family .sse) (sseBinary (cmpLanes 8 gtS)) d s

/-- PCMPGTW (0x091), `PCMPGTW xmm1, xmm2/m128`: R257. -/
def execPcmpgtw (d : Desc) (s : State) : StepOutcome :=
  runHandler .sseBinary (.family .sse) (sseBinary (cmpLanes 16 gtS)) d s

/-- PCMPGTD (0x092), `PCMPGTD xmm1, xmm2/m128`: R257. -/
def execPcmpgtd (d : Desc) (s : State) : StepOutcome :=
  runHandler .sseBinary (.family .sse) (sseBinary (cmpLanes 32 gtS)) d s

/-- PCMPGTQ (0x093), `PCMPGTQ xmm1, xmm2/m128`: R257. -/
def execPcmpgtq (d : Desc) (s : State) : StepOutcome :=
  runHandler .sseBinary (.family .sse) (sseBinary (cmpLanes 64 gtS)) d s

/-- PMINSB (0x094), `PMINSB xmm1, xmm2/m128`: R258. -/
def execPminsb (d : Desc) (s : State) : StepOutcome :=
  runHandler .sseBinary (.family .sse) (sseBinary (map2 8 minsL)) d s

/-- PMINSW (0x095), `PMINSW xmm1, xmm2/m128`: R258. -/
def execPminsw (d : Desc) (s : State) : StepOutcome :=
  runHandler .sseBinary (.family .sse) (sseBinary (map2 16 minsL)) d s

/-- PMINSD (0x096), `PMINSD xmm1, xmm2/m128`: R258. -/
def execPminsd (d : Desc) (s : State) : StepOutcome :=
  runHandler .sseBinary (.family .sse) (sseBinary (map2 32 minsL)) d s

/-- PMINUB (0x097), `PMINUB xmm1, xmm2/m128`: R259. -/
def execPminub (d : Desc) (s : State) : StepOutcome :=
  runHandler .sseBinary (.family .sse) (sseBinary (map2 8 minuL)) d s

/-- PMINUW (0x098), `PMINUW xmm1, xmm2/m128`: R259. -/
def execPminuw (d : Desc) (s : State) : StepOutcome :=
  runHandler .sseBinary (.family .sse) (sseBinary (map2 16 minuL)) d s

/-- PMINUD (0x099), `PMINUD xmm1, xmm2/m128`: R259. -/
def execPminud (d : Desc) (s : State) : StepOutcome :=
  runHandler .sseBinary (.family .sse) (sseBinary (map2 32 minuL)) d s

/-- PMAXSB (0x09A), `PMAXSB xmm1, xmm2/m128`: R260. -/
def execPmaxsb (d : Desc) (s : State) : StepOutcome :=
  runHandler .sseBinary (.family .sse) (sseBinary (map2 8 maxsL)) d s

/-- PMAXSW (0x09B), `PMAXSW xmm1, xmm2/m128`: R260. -/
def execPmaxsw (d : Desc) (s : State) : StepOutcome :=
  runHandler .sseBinary (.family .sse) (sseBinary (map2 16 maxsL)) d s

/-- PMAXSD (0x09C), `PMAXSD xmm1, xmm2/m128`: R260. -/
def execPmaxsd (d : Desc) (s : State) : StepOutcome :=
  runHandler .sseBinary (.family .sse) (sseBinary (map2 32 maxsL)) d s

/-- PMAXUB (0x09D), `PMAXUB xmm1, xmm2/m128`: R261. -/
def execPmaxub (d : Desc) (s : State) : StepOutcome :=
  runHandler .sseBinary (.family .sse) (sseBinary (map2 8 maxuL)) d s

/-- PMAXUW (0x09E), `PMAXUW xmm1, xmm2/m128`: R261. -/
def execPmaxuw (d : Desc) (s : State) : StepOutcome :=
  runHandler .sseBinary (.family .sse) (sseBinary (map2 16 maxuL)) d s

/-- PMAXUD (0x09F), `PMAXUD xmm1, xmm2/m128`: R261. -/
def execPmaxud (d : Desc) (s : State) : StepOutcome :=
  runHandler .sseBinary (.family .sse) (sseBinary (map2 32 maxuL)) d s

/-- PSLLW_I (0x0A0), `PSLLW xmm1, imm8`: R262. -/
def execPsllwI (d : Desc) (s : State) : StepOutcome :=
  runHandler .sseShift (.family .sse) (sseShift 16 shlL) d s

/-- PSLLD_I (0x0A1), `PSLLD xmm1, imm8`: R262. -/
def execPslldI (d : Desc) (s : State) : StepOutcome :=
  runHandler .sseShift (.family .sse) (sseShift 32 shlL) d s

/-- PSLLQ_I (0x0A2), `PSLLQ xmm1, imm8`: R262. -/
def execPsllqI (d : Desc) (s : State) : StepOutcome :=
  runHandler .sseShift (.family .sse) (sseShift 64 shlL) d s

/-- PSRLW_I (0x0A3), `PSRLW xmm1, imm8`: R263. -/
def execPsrlwI (d : Desc) (s : State) : StepOutcome :=
  runHandler .sseShift (.family .sse) (sseShift 16 shrL) d s

/-- PSRLD_I (0x0A4), `PSRLD xmm1, imm8`: R263. -/
def execPsrldI (d : Desc) (s : State) : StepOutcome :=
  runHandler .sseShift (.family .sse) (sseShift 32 shrL) d s

/-- PSRLQ_I (0x0A5), `PSRLQ xmm1, imm8`: R263. -/
def execPsrlqI (d : Desc) (s : State) : StepOutcome :=
  runHandler .sseShift (.family .sse) (sseShift 64 shrL) d s

/-- PSRAW_I (0x0A6), `PSRAW xmm1, imm8`: R264. -/
def execPsrawI (d : Desc) (s : State) : StepOutcome :=
  runHandler .sseShift (.family .sse) (sseShift 16 sarL) d s

/-- PSRAD_I (0x0A7), `PSRAD xmm1, imm8`: R264. -/
def execPsradI (d : Desc) (s : State) : StepOutcome :=
  runHandler .sseShift (.family .sse) (sseShift 32 sarL) d s

/-- PSHUFD (0x0A8), `PSHUFD xmm1, xmm2/m128, imm8`: R268. -/
def execPshufd (d : Desc) (s : State) : StepOutcome :=
  runHandler .sseShuffle (.family .sse) pshufdBody d s

/-- PSHUFB (0x0A9), `PSHUFB xmm1, xmm2/m128`: R269. -/
def execPshufb (d : Desc) (s : State) : StepOutcome :=
  runHandler .sseBinary (.family .sse) (sseBinary pshufb) d s

/-- MOVDQU_LD (0x0AA), `MOVDQU xmm1, xmm2/m128`: R279. -/
def execMovdquLd (d : Desc) (s : State) : StepOutcome :=
  runHandler .sseBinary (.family .sse) movdquLoad d s

/-- MOVDQU_ST (0x0AB), `MOVDQU m128, xmm1`: R279. -/
def execMovdquSt (d : Desc) (s : State) : StepOutcome :=
  runHandler .sseStore (.family .sse) movdquStore d s

end Sys2Proof.Machine
end

