-- ==== Sys2Proof/Machine/Tbm.lean ====
section
/-! DEFINITION. TBM (spec/43_tbm.md). -/

namespace Sys2Proof.Machine

/-- R230: the control is the immediate; bits 31:16 are ignored. -/
def bextriBody (w : Nat) (d : Desc) (s : State) : Access Unit :=
  (s.srcG w d d.src1).bind fun v s₁ =>
    .ok () (s₁.logicResult d (bextr v (d.imm.extractLsb' 0 8) (d.imm.extractLsb' 8 8)) false)

/-- R240: `s` is all ones, `s + 1` carries out. -/
def carryOnes {w : Nat} (v : BitVec w) : Bool := v + 1#w == 0#w

/-- R231. -/
def blcfillF {w : Nat} (v : BitVec w) : BitVec w := v &&& (v + 1#w)
/-- R232. -/
def blciF {w : Nat} (v : BitVec w) : BitVec w := v ||| ~~~ (v + 1#w)
/-- R233. -/
def blcicF {w : Nat} (v : BitVec w) : BitVec w := ~~~ v &&& (v + 1#w)
/-- R234. -/
def blcmskF {w : Nat} (v : BitVec w) : BitVec w := v ^^^ (v + 1#w)
/-- R235. -/
def blcsF {w : Nat} (v : BitVec w) : BitVec w := v ||| (v + 1#w)
/-- R236. -/
def blsfillF {w : Nat} (v : BitVec w) : BitVec w := v ||| (v - 1#w)
/-- R237. -/
def blsicF {w : Nat} (v : BitVec w) : BitVec w := ~~~ v ||| (v - 1#w)
/-- R238. -/
def t1mskcF {w : Nat} (v : BitVec w) : BitVec w := ~~~ v ||| (v + 1#w)
/-- R239. -/
def tzmskF {w : Nat} (v : BitVec w) : BitVec w := ~~~ v &&& (v - 1#w)

/-! The handlers. -/

/-- BEXTRI32 (0x060), `BEXTR r32, r/m32, imm32`: R230. -/
def execBextri32 (d : Desc) (s : State) : StepOutcome :=
  runHandler .gprUnaryControl (.family .tbm) (bextriBody 32) d s

/-- BEXTRI64 (0x061), `BEXTR r64, r/m64, imm32`: R230. -/
def execBextri64 (d : Desc) (s : State) : StepOutcome :=
  runHandler .gprUnaryControl (.family .tbm) (bextriBody 64) d s

/-- BLCFILL32 (0x062), `BLCFILL r32, r/m32`: R231. -/
def execBlcfill32 (d : Desc) (s : State) : StepOutcome :=
  runHandler .gprUnary (.family .tbm) (sourceBody 32 blcfillF carryOnes) d s

/-- BLCFILL64 (0x063), `BLCFILL r64, r/m64`: R231. -/
def execBlcfill64 (d : Desc) (s : State) : StepOutcome :=
  runHandler .gprUnary (.family .tbm) (sourceBody 64 blcfillF carryOnes) d s

/-- BLCI32 (0x064), `BLCI r32, r/m32`: R232. -/
def execBlci32 (d : Desc) (s : State) : StepOutcome :=
  runHandler .gprUnary (.family .tbm) (sourceBody 32 blciF carryOnes) d s

/-- BLCI64 (0x065), `BLCI r64, r/m64`: R232. -/
def execBlci64 (d : Desc) (s : State) : StepOutcome :=
  runHandler .gprUnary (.family .tbm) (sourceBody 64 blciF carryOnes) d s

/-- BLCIC32 (0x066), `BLCIC r32, r/m32`: R233. -/
def execBlcic32 (d : Desc) (s : State) : StepOutcome :=
  runHandler .gprUnary (.family .tbm) (sourceBody 32 blcicF carryOnes) d s

/-- BLCIC64 (0x067), `BLCIC r64, r/m64`: R233. -/
def execBlcic64 (d : Desc) (s : State) : StepOutcome :=
  runHandler .gprUnary (.family .tbm) (sourceBody 64 blcicF carryOnes) d s

/-- BLCMSK32 (0x068), `BLCMSK r32, r/m32`: R234. -/
def execBlcmsk32 (d : Desc) (s : State) : StepOutcome :=
  runHandler .gprUnary (.family .tbm) (sourceBody 32 blcmskF carryOnes) d s

/-- BLCMSK64 (0x069), `BLCMSK r64, r/m64`: R234. -/
def execBlcmsk64 (d : Desc) (s : State) : StepOutcome :=
  runHandler .gprUnary (.family .tbm) (sourceBody 64 blcmskF carryOnes) d s

/-- BLCS32 (0x06A), `BLCS r32, r/m32`: R235. -/
def execBlcs32 (d : Desc) (s : State) : StepOutcome :=
  runHandler .gprUnary (.family .tbm) (sourceBody 32 blcsF carryOnes) d s

/-- BLCS64 (0x06B), `BLCS r64, r/m64`: R235. -/
def execBlcs64 (d : Desc) (s : State) : StepOutcome :=
  runHandler .gprUnary (.family .tbm) (sourceBody 64 blcsF carryOnes) d s

/-- BLSFILL32 (0x06C), `BLSFILL r32, r/m32`: R236. -/
def execBlsfill32 (d : Desc) (s : State) : StepOutcome :=
  runHandler .gprUnary (.family .tbm) (sourceBody 32 blsfillF carryZero) d s

/-- BLSFILL64 (0x06D), `BLSFILL r64, r/m64`: R236. -/
def execBlsfill64 (d : Desc) (s : State) : StepOutcome :=
  runHandler .gprUnary (.family .tbm) (sourceBody 64 blsfillF carryZero) d s

/-- BLSIC32 (0x06E), `BLSIC r32, r/m32`: R237. -/
def execBlsic32 (d : Desc) (s : State) : StepOutcome :=
  runHandler .gprUnary (.family .tbm) (sourceBody 32 blsicF carryZero) d s

/-- BLSIC64 (0x06F), `BLSIC r64, r/m64`: R237. -/
def execBlsic64 (d : Desc) (s : State) : StepOutcome :=
  runHandler .gprUnary (.family .tbm) (sourceBody 64 blsicF carryZero) d s

/-- T1MSKC32 (0x070), `T1MSKC r32, r/m32`: R238. -/
def execT1mskc32 (d : Desc) (s : State) : StepOutcome :=
  runHandler .gprUnary (.family .tbm) (sourceBody 32 t1mskcF carryOnes) d s

/-- T1MSKC64 (0x071), `T1MSKC r64, r/m64`: R238. -/
def execT1mskc64 (d : Desc) (s : State) : StepOutcome :=
  runHandler .gprUnary (.family .tbm) (sourceBody 64 t1mskcF carryOnes) d s

/-- TZMSK32 (0x072), `TZMSK r32, r/m32`: R239. -/
def execTzmsk32 (d : Desc) (s : State) : StepOutcome :=
  runHandler .gprUnary (.family .tbm) (sourceBody 32 tzmskF carryZero) d s

/-- TZMSK64 (0x073), `TZMSK r64, r/m64`: R239. -/
def execTzmsk64 (d : Desc) (s : State) : StepOutcome :=
  runHandler .gprUnary (.family .tbm) (sourceBody 64 tzmskF carryZero) d s

end Sys2Proof.Machine
end

