-- ==== Sys2Proof/Machine/Xop.lean ====
section
/-! DEFINITION. XOP (spec/46_xop.md). The bits above the operated length of the destination become zero. -/

namespace Sys2Proof.Machine

/-- R321, R322. -/
def xopCompare (w : Nat) (pred : BitVec 3 → BitVec w → BitVec w → Bool) (d : Desc) (s : State) : Access Unit :=
  (s.srcV 128 d d.src2).bind fun b s₁ =>
    .ok () (s₁.writeRegZ d.dst 128 (cmpLanes w (pred d.predicate) 128 (lowBits 128 (s.vreg d.src1.toNat)) b))

/-- R320, R323 to R336: the four-operand handlers at the active length: sources `src1`, `src2` or memory, and `src3`. -/
def xopTernary (f : Packed → Packed → Packed → Packed) (d : Desc) (s : State) : Access Unit :=
  (s.srcV d.vlBits d d.src2).bind fun b s₁ =>
    .ok () (s₁.writeRegZ d.dst d.vlBits
      (f (lowBits d.vlBits (s.vreg d.src1.toNat)) b (lowBits d.vlBits (s.vreg d.src3.toNat))))

/-- R327 to R334: the odd-numbered elements. -/
def oddOf (i : Nat) : Nat := 2 * i + 1
/-- R331, R332: the even-numbered elements. -/
def evenOf (i : Nat) : Nat := 2 * i
/-- R325, R326, R329, R330: every element. -/
def eachOf (i : Nat) : Nat := i

/-! The handlers. -/

/-- VPCOMB (0x200), `VPCOMB xmm1, xmm2, xmm3/m128, imm8`: R321. -/
def execVpcomb (d : Desc) (s : State) : StepOutcome :=
  runHandler .xopCompare (.family .xop) (xopCompare 8 xopCompareS) d s

/-- VPCOMW (0x201), `VPCOMW xmm1, xmm2, xmm3/m128, imm8`: R321. -/
def execVpcomw (d : Desc) (s : State) : StepOutcome :=
  runHandler .xopCompare (.family .xop) (xopCompare 16 xopCompareS) d s

/-- VPCOMD (0x202), `VPCOMD xmm1, xmm2, xmm3/m128, imm8`: R321. -/
def execVpcomd (d : Desc) (s : State) : StepOutcome :=
  runHandler .xopCompare (.family .xop) (xopCompare 32 xopCompareS) d s

/-- VPCOMQ (0x203), `VPCOMQ xmm1, xmm2, xmm3/m128, imm8`: R321. -/
def execVpcomq (d : Desc) (s : State) : StepOutcome :=
  runHandler .xopCompare (.family .xop) (xopCompare 64 xopCompareS) d s

/-- VPCOMUB (0x204), `VPCOMUB xmm1, xmm2, xmm3/m128, imm8`: R322. -/
def execVpcomub (d : Desc) (s : State) : StepOutcome :=
  runHandler .xopCompare (.family .xop) (xopCompare 8 xopCompareU) d s

/-- VPCOMUW (0x205), `VPCOMUW xmm1, xmm2, xmm3/m128, imm8`: R322. -/
def execVpcomuw (d : Desc) (s : State) : StepOutcome :=
  runHandler .xopCompare (.family .xop) (xopCompare 16 xopCompareU) d s

/-- VPCOMUD (0x206), `VPCOMUD xmm1, xmm2, xmm3/m128, imm8`: R322. -/
def execVpcomud (d : Desc) (s : State) : StepOutcome :=
  runHandler .xopCompare (.family .xop) (xopCompare 32 xopCompareU) d s

/-- VPCOMUQ (0x207), `VPCOMUQ xmm1, xmm2, xmm3/m128, imm8`: R322. -/
def execVpcomuq (d : Desc) (s : State) : StepOutcome :=
  runHandler .xopCompare (.family .xop) (xopCompare 64 xopCompareU) d s

/-- VPPERM (0x208), `VPPERM xmm1, xmm2, xmm3/m128, xmm4`: R323. -/
def execVpperm (d : Desc) (s : State) : StepOutcome :=
  runHandler .xopTernary (.family .xop) (xopTernary vpperm) d s

/-- VPCMOV (0x209), `VPCMOV v1, v2, v3/m, v4`: R324. -/
def execVpcmov (d : Desc) (s : State) : StepOutcome :=
  runHandler .xopCmov (.family .xop) (xopTernary cmov) d s

/-- VPMACSSWW (0x20A), `VPMACSSWW xmm1, xmm2, xmm3/m128, xmm4`: R325. -/
def execVpmacssww (d : Desc) (s : State) : StepOutcome :=
  runHandler .xopTernary (.family .xop) (xopTernary (mac 16 16 eachOf (satS 16))) d s

/-- VPMACSWW (0x20B), `VPMACSWW xmm1, xmm2, xmm3/m128, xmm4`: R326. -/
def execVpmacsww (d : Desc) (s : State) : StepOutcome :=
  runHandler .xopTernary (.family .xop) (xopTernary (mac 16 16 eachOf (truncS 16))) d s

/-- VPMACSSWD (0x20C), `VPMACSSWD xmm1, xmm2, xmm3/m128, xmm4`: R327. -/
def execVpmacsswd (d : Desc) (s : State) : StepOutcome :=
  runHandler .xopTernary (.family .xop) (xopTernary (mac 16 32 oddOf (satS 32))) d s

/-- VPMACSWD (0x20D), `VPMACSWD xmm1, xmm2, xmm3/m128, xmm4`: R328. -/
def execVpmacswd (d : Desc) (s : State) : StepOutcome :=
  runHandler .xopTernary (.family .xop) (xopTernary (mac 16 32 oddOf (truncS 32))) d s

/-- VPMACSSDD (0x20E), `VPMACSSDD xmm1, xmm2, xmm3/m128, xmm4`: R329. -/
def execVpmacssdd (d : Desc) (s : State) : StepOutcome :=
  runHandler .xopTernary (.family .xop) (xopTernary (mac 32 32 eachOf (satS 32))) d s

/-- VPMACSDD (0x20F), `VPMACSDD xmm1, xmm2, xmm3/m128, xmm4`: R330. -/
def execVpmacsdd (d : Desc) (s : State) : StepOutcome :=
  runHandler .xopTernary (.family .xop) (xopTernary (mac 32 32 eachOf (truncS 32))) d s

/-- VPMACSSDQL (0x210), `VPMACSSDQL xmm1, xmm2, xmm3/m128, xmm4`: R331. -/
def execVpmacssdql (d : Desc) (s : State) : StepOutcome :=
  runHandler .xopTernary (.family .xop) (xopTernary (mac 32 64 evenOf (satS 64))) d s

/-- VPMACSDQL (0x211), `VPMACSDQL xmm1, xmm2, xmm3/m128, xmm4`: R332. -/
def execVpmacsdql (d : Desc) (s : State) : StepOutcome :=
  runHandler .xopTernary (.family .xop) (xopTernary (mac 32 64 evenOf (truncS 64))) d s

/-- VPMACSSDQH (0x212), `VPMACSSDQH xmm1, xmm2, xmm3/m128, xmm4`: R333. -/
def execVpmacssdqh (d : Desc) (s : State) : StepOutcome :=
  runHandler .xopTernary (.family .xop) (xopTernary (mac 32 64 oddOf (satS 64))) d s

/-- VPMACSDQH (0x213), `VPMACSDQH xmm1, xmm2, xmm3/m128, xmm4`: R334. -/
def execVpmacsdqh (d : Desc) (s : State) : StepOutcome :=
  runHandler .xopTernary (.family .xop) (xopTernary (mac 32 64 oddOf (truncS 64))) d s

/-- VPMADCSSWD (0x214), `VPMADCSSWD xmm1, xmm2, xmm3/m128, xmm4`: R335. -/
def execVpmadcsswd (d : Desc) (s : State) : StepOutcome :=
  runHandler .xopTernary (.family .xop) (xopTernary (mad (satS 32))) d s

/-- VPMADCSWD (0x215), `VPMADCSWD xmm1, xmm2, xmm3/m128, xmm4`: R336. -/
def execVpmadcswd (d : Desc) (s : State) : StepOutcome :=
  runHandler .xopTernary (.family .xop) (xopTernary (mad (truncS 32))) d s

end Sys2Proof.Machine
end

