-- ==== Sys2Proof/Machine/Dispatch.lean ====
section
/-! DEFINITION. One arm per handler of the ROM (spec/30_encoding.md R118): each is one call of its meaning. -/

namespace Sys2Proof.Machine

def exec (i : Instr) (s : State) : Host.Outcome State Fault Refusal :=
  match i with
  | .illegal d => Sys2Proof.Machine.execIllegal d s
  | .bt16G d => Sys2Proof.Machine.execBt16G d s
  | .bt16I d => Sys2Proof.Machine.execBt16I d s
  | .bt32G d => Sys2Proof.Machine.execBt32G d s
  | .bt32I d => Sys2Proof.Machine.execBt32I d s
  | .bt64G d => Sys2Proof.Machine.execBt64G d s
  | .bt64I d => Sys2Proof.Machine.execBt64I d s
  | .bts16G d => Sys2Proof.Machine.execBts16G d s
  | .bts16I d => Sys2Proof.Machine.execBts16I d s
  | .bts32G d => Sys2Proof.Machine.execBts32G d s
  | .bts32I d => Sys2Proof.Machine.execBts32I d s
  | .bts64G d => Sys2Proof.Machine.execBts64G d s
  | .bts64I d => Sys2Proof.Machine.execBts64I d s
  | .btr16G d => Sys2Proof.Machine.execBtr16G d s
  | .btr16I d => Sys2Proof.Machine.execBtr16I d s
  | .btr32G d => Sys2Proof.Machine.execBtr32G d s
  | .btr32I d => Sys2Proof.Machine.execBtr32I d s
  | .btr64G d => Sys2Proof.Machine.execBtr64G d s
  | .btr64I d => Sys2Proof.Machine.execBtr64I d s
  | .btc16G d => Sys2Proof.Machine.execBtc16G d s
  | .btc16I d => Sys2Proof.Machine.execBtc16I d s
  | .btc32G d => Sys2Proof.Machine.execBtc32G d s
  | .btc32I d => Sys2Proof.Machine.execBtc32I d s
  | .btc64G d => Sys2Proof.Machine.execBtc64G d s
  | .btc64I d => Sys2Proof.Machine.execBtc64I d s
  | .bsf16 d => Sys2Proof.Machine.execBsf16 d s
  | .bsf32 d => Sys2Proof.Machine.execBsf32 d s
  | .bsf64 d => Sys2Proof.Machine.execBsf64 d s
  | .bsr16 d => Sys2Proof.Machine.execBsr16 d s
  | .bsr32 d => Sys2Proof.Machine.execBsr32 d s
  | .bsr64 d => Sys2Proof.Machine.execBsr64 d s
  | .popcnt16 d => Sys2Proof.Machine.execPopcnt16 d s
  | .popcnt32 d => Sys2Proof.Machine.execPopcnt32 d s
  | .popcnt64 d => Sys2Proof.Machine.execPopcnt64 d s
  | .tzcnt16 d => Sys2Proof.Machine.execTzcnt16 d s
  | .tzcnt32 d => Sys2Proof.Machine.execTzcnt32 d s
  | .tzcnt64 d => Sys2Proof.Machine.execTzcnt64 d s
  | .lzcnt16 d => Sys2Proof.Machine.execLzcnt16 d s
  | .lzcnt32 d => Sys2Proof.Machine.execLzcnt32 d s
  | .lzcnt64 d => Sys2Proof.Machine.execLzcnt64 d s
  | .andn32 d => Sys2Proof.Machine.execAndn32 d s
  | .andn64 d => Sys2Proof.Machine.execAndn64 d s
  | .bextr32 d => Sys2Proof.Machine.execBextr32 d s
  | .bextr64 d => Sys2Proof.Machine.execBextr64 d s
  | .blsi32 d => Sys2Proof.Machine.execBlsi32 d s
  | .blsi64 d => Sys2Proof.Machine.execBlsi64 d s
  | .blsmsk32 d => Sys2Proof.Machine.execBlsmsk32 d s
  | .blsmsk64 d => Sys2Proof.Machine.execBlsmsk64 d s
  | .blsr32 d => Sys2Proof.Machine.execBlsr32 d s
  | .blsr64 d => Sys2Proof.Machine.execBlsr64 d s
  | .bzhi32 d => Sys2Proof.Machine.execBzhi32 d s
  | .bzhi64 d => Sys2Proof.Machine.execBzhi64 d s
  | .mulx32 d => Sys2Proof.Machine.execMulx32 d s
  | .mulx64 d => Sys2Proof.Machine.execMulx64 d s
  | .pdep32 d => Sys2Proof.Machine.execPdep32 d s
  | .pdep64 d => Sys2Proof.Machine.execPdep64 d s
  | .pext32 d => Sys2Proof.Machine.execPext32 d s
  | .pext64 d => Sys2Proof.Machine.execPext64 d s
  | .rorx32 d => Sys2Proof.Machine.execRorx32 d s
  | .rorx64 d => Sys2Proof.Machine.execRorx64 d s
  | .sarx32 d => Sys2Proof.Machine.execSarx32 d s
  | .sarx64 d => Sys2Proof.Machine.execSarx64 d s
  | .shlx32 d => Sys2Proof.Machine.execShlx32 d s
  | .shlx64 d => Sys2Proof.Machine.execShlx64 d s
  | .shrx32 d => Sys2Proof.Machine.execShrx32 d s
  | .shrx64 d => Sys2Proof.Machine.execShrx64 d s
  | .bextri32 d => Sys2Proof.Machine.execBextri32 d s
  | .bextri64 d => Sys2Proof.Machine.execBextri64 d s
  | .blcfill32 d => Sys2Proof.Machine.execBlcfill32 d s
  | .blcfill64 d => Sys2Proof.Machine.execBlcfill64 d s
  | .blci32 d => Sys2Proof.Machine.execBlci32 d s
  | .blci64 d => Sys2Proof.Machine.execBlci64 d s
  | .blcic32 d => Sys2Proof.Machine.execBlcic32 d s
  | .blcic64 d => Sys2Proof.Machine.execBlcic64 d s
  | .blcmsk32 d => Sys2Proof.Machine.execBlcmsk32 d s
  | .blcmsk64 d => Sys2Proof.Machine.execBlcmsk64 d s
  | .blcs32 d => Sys2Proof.Machine.execBlcs32 d s
  | .blcs64 d => Sys2Proof.Machine.execBlcs64 d s
  | .blsfill32 d => Sys2Proof.Machine.execBlsfill32 d s
  | .blsfill64 d => Sys2Proof.Machine.execBlsfill64 d s
  | .blsic32 d => Sys2Proof.Machine.execBlsic32 d s
  | .blsic64 d => Sys2Proof.Machine.execBlsic64 d s
  | .t1mskc32 d => Sys2Proof.Machine.execT1mskc32 d s
  | .t1mskc64 d => Sys2Proof.Machine.execT1mskc64 d s
  | .tzmsk32 d => Sys2Proof.Machine.execTzmsk32 d s
  | .tzmsk64 d => Sys2Proof.Machine.execTzmsk64 d s
  | .paddb d => Sys2Proof.Machine.execPaddb d s
  | .paddw d => Sys2Proof.Machine.execPaddw d s
  | .paddd d => Sys2Proof.Machine.execPaddd d s
  | .paddq d => Sys2Proof.Machine.execPaddq d s
  | .psubb d => Sys2Proof.Machine.execPsubb d s
  | .psubw d => Sys2Proof.Machine.execPsubw d s
  | .psubd d => Sys2Proof.Machine.execPsubd d s
  | .psubq d => Sys2Proof.Machine.execPsubq d s
  | .pand d => Sys2Proof.Machine.execPand d s
  | .pandn d => Sys2Proof.Machine.execPandn d s
  | .por d => Sys2Proof.Machine.execPor d s
  | .pxor d => Sys2Proof.Machine.execPxor d s
  | .pcmpeqb d => Sys2Proof.Machine.execPcmpeqb d s
  | .pcmpeqw d => Sys2Proof.Machine.execPcmpeqw d s
  | .pcmpeqd d => Sys2Proof.Machine.execPcmpeqd d s
  | .pcmpeqq d => Sys2Proof.Machine.execPcmpeqq d s
  | .pcmpgtb d => Sys2Proof.Machine.execPcmpgtb d s
  | .pcmpgtw d => Sys2Proof.Machine.execPcmpgtw d s
  | .pcmpgtd d => Sys2Proof.Machine.execPcmpgtd d s
  | .pcmpgtq d => Sys2Proof.Machine.execPcmpgtq d s
  | .pminsb d => Sys2Proof.Machine.execPminsb d s
  | .pminsw d => Sys2Proof.Machine.execPminsw d s
  | .pminsd d => Sys2Proof.Machine.execPminsd d s
  | .pminub d => Sys2Proof.Machine.execPminub d s
  | .pminuw d => Sys2Proof.Machine.execPminuw d s
  | .pminud d => Sys2Proof.Machine.execPminud d s
  | .pmaxsb d => Sys2Proof.Machine.execPmaxsb d s
  | .pmaxsw d => Sys2Proof.Machine.execPmaxsw d s
  | .pmaxsd d => Sys2Proof.Machine.execPmaxsd d s
  | .pmaxub d => Sys2Proof.Machine.execPmaxub d s
  | .pmaxuw d => Sys2Proof.Machine.execPmaxuw d s
  | .pmaxud d => Sys2Proof.Machine.execPmaxud d s
  | .psllwI d => Sys2Proof.Machine.execPsllwI d s
  | .pslldI d => Sys2Proof.Machine.execPslldI d s
  | .psllqI d => Sys2Proof.Machine.execPsllqI d s
  | .psrlwI d => Sys2Proof.Machine.execPsrlwI d s
  | .psrldI d => Sys2Proof.Machine.execPsrldI d s
  | .psrlqI d => Sys2Proof.Machine.execPsrlqI d s
  | .psrawI d => Sys2Proof.Machine.execPsrawI d s
  | .psradI d => Sys2Proof.Machine.execPsradI d s
  | .pshufd d => Sys2Proof.Machine.execPshufd d s
  | .pshufb d => Sys2Proof.Machine.execPshufb d s
  | .movdquLd d => Sys2Proof.Machine.execMovdquLd d s
  | .movdquSt d => Sys2Proof.Machine.execMovdquSt d s
  | .vpaddb d => Sys2Proof.Machine.execVpaddb d s
  | .vpaddw d => Sys2Proof.Machine.execVpaddw d s
  | .vpaddd d => Sys2Proof.Machine.execVpaddd d s
  | .vpaddq d => Sys2Proof.Machine.execVpaddq d s
  | .vpsubb d => Sys2Proof.Machine.execVpsubb d s
  | .vpsubw d => Sys2Proof.Machine.execVpsubw d s
  | .vpsubd d => Sys2Proof.Machine.execVpsubd d s
  | .vpsubq d => Sys2Proof.Machine.execVpsubq d s
  | .vpandd d => Sys2Proof.Machine.execVpandd d s
  | .vpandq d => Sys2Proof.Machine.execVpandq d s
  | .vpandnd d => Sys2Proof.Machine.execVpandnd d s
  | .vpandnq d => Sys2Proof.Machine.execVpandnq d s
  | .vpord d => Sys2Proof.Machine.execVpord d s
  | .vporq d => Sys2Proof.Machine.execVporq d s
  | .vpxord d => Sys2Proof.Machine.execVpxord d s
  | .vpxorq d => Sys2Proof.Machine.execVpxorq d s
  | .vpcmpeqb d => Sys2Proof.Machine.execVpcmpeqb d s
  | .vpcmpeqw d => Sys2Proof.Machine.execVpcmpeqw d s
  | .vpcmpeqd d => Sys2Proof.Machine.execVpcmpeqd d s
  | .vpcmpeqq d => Sys2Proof.Machine.execVpcmpeqq d s
  | .vpcmpgtb d => Sys2Proof.Machine.execVpcmpgtb d s
  | .vpcmpgtw d => Sys2Proof.Machine.execVpcmpgtw d s
  | .vpcmpgtd d => Sys2Proof.Machine.execVpcmpgtd d s
  | .vpcmpgtq d => Sys2Proof.Machine.execVpcmpgtq d s
  | .vpminsb d => Sys2Proof.Machine.execVpminsb d s
  | .vpminsw d => Sys2Proof.Machine.execVpminsw d s
  | .vpminsd d => Sys2Proof.Machine.execVpminsd d s
  | .vpminsq d => Sys2Proof.Machine.execVpminsq d s
  | .vpminub d => Sys2Proof.Machine.execVpminub d s
  | .vpminuw d => Sys2Proof.Machine.execVpminuw d s
  | .vpminud d => Sys2Proof.Machine.execVpminud d s
  | .vpminuq d => Sys2Proof.Machine.execVpminuq d s
  | .vpmaxsb d => Sys2Proof.Machine.execVpmaxsb d s
  | .vpmaxsw d => Sys2Proof.Machine.execVpmaxsw d s
  | .vpmaxsd d => Sys2Proof.Machine.execVpmaxsd d s
  | .vpmaxsq d => Sys2Proof.Machine.execVpmaxsq d s
  | .vpmaxub d => Sys2Proof.Machine.execVpmaxub d s
  | .vpmaxuw d => Sys2Proof.Machine.execVpmaxuw d s
  | .vpmaxud d => Sys2Proof.Machine.execVpmaxud d s
  | .vpmaxuq d => Sys2Proof.Machine.execVpmaxuq d s
  | .vpsllwI d => Sys2Proof.Machine.execVpsllwI d s
  | .vpslldI d => Sys2Proof.Machine.execVpslldI d s
  | .vpsllqI d => Sys2Proof.Machine.execVpsllqI d s
  | .vpsrlwI d => Sys2Proof.Machine.execVpsrlwI d s
  | .vpsrldI d => Sys2Proof.Machine.execVpsrldI d s
  | .vpsrlqI d => Sys2Proof.Machine.execVpsrlqI d s
  | .vpsrawI d => Sys2Proof.Machine.execVpsrawI d s
  | .vpsradI d => Sys2Proof.Machine.execVpsradI d s
  | .vpsraqI d => Sys2Proof.Machine.execVpsraqI d s
  | .vpsllvw d => Sys2Proof.Machine.execVpsllvw d s
  | .vpsllvd d => Sys2Proof.Machine.execVpsllvd d s
  | .vpsllvq d => Sys2Proof.Machine.execVpsllvq d s
  | .vpsrlvw d => Sys2Proof.Machine.execVpsrlvw d s
  | .vpsrlvd d => Sys2Proof.Machine.execVpsrlvd d s
  | .vpsrlvq d => Sys2Proof.Machine.execVpsrlvq d s
  | .vpsravw d => Sys2Proof.Machine.execVpsravw d s
  | .vpsravd d => Sys2Proof.Machine.execVpsravd d s
  | .vpsravq d => Sys2Proof.Machine.execVpsravq d s
  | .vpshufd d => Sys2Proof.Machine.execVpshufd d s
  | .vpshufb d => Sys2Proof.Machine.execVpshufb d s
  | .vmovdqu8Ld d => Sys2Proof.Machine.execVmovdqu8Ld d s
  | .vmovdqu16Ld d => Sys2Proof.Machine.execVmovdqu16Ld d s
  | .vmovdqu32Ld d => Sys2Proof.Machine.execVmovdqu32Ld d s
  | .vmovdqu64Ld d => Sys2Proof.Machine.execVmovdqu64Ld d s
  | .vmovdqu8St d => Sys2Proof.Machine.execVmovdqu8St d s
  | .vmovdqu16St d => Sys2Proof.Machine.execVmovdqu16St d s
  | .vmovdqu32St d => Sys2Proof.Machine.execVmovdqu32St d s
  | .vmovdqu64St d => Sys2Proof.Machine.execVmovdqu64St d s
  | .vpcmpb d => Sys2Proof.Machine.execVpcmpb d s
  | .vpcmpw d => Sys2Proof.Machine.execVpcmpw d s
  | .vpcmpd d => Sys2Proof.Machine.execVpcmpd d s
  | .vpcmpq d => Sys2Proof.Machine.execVpcmpq d s
  | .vpcmpub d => Sys2Proof.Machine.execVpcmpub d s
  | .vpcmpuw d => Sys2Proof.Machine.execVpcmpuw d s
  | .vpcmpud d => Sys2Proof.Machine.execVpcmpud d s
  | .vpcmpuq d => Sys2Proof.Machine.execVpcmpuq d s
  | .vpcompressb d => Sys2Proof.Machine.execVpcompressb d s
  | .vpcompressw d => Sys2Proof.Machine.execVpcompressw d s
  | .vpcompressd d => Sys2Proof.Machine.execVpcompressd d s
  | .vpcompressq d => Sys2Proof.Machine.execVpcompressq d s
  | .vpexpandb d => Sys2Proof.Machine.execVpexpandb d s
  | .vpexpandw d => Sys2Proof.Machine.execVpexpandw d s
  | .vpexpandd d => Sys2Proof.Machine.execVpexpandd d s
  | .vpexpandq d => Sys2Proof.Machine.execVpexpandq d s
  | .vpermb d => Sys2Proof.Machine.execVpermb d s
  | .vpermw d => Sys2Proof.Machine.execVpermw d s
  | .vpermd d => Sys2Proof.Machine.execVpermd d s
  | .vpermq d => Sys2Proof.Machine.execVpermq d s
  | .valignd d => Sys2Proof.Machine.execValignd d s
  | .valignq d => Sys2Proof.Machine.execValignq d s
  | .kmovbKg d => Sys2Proof.Machine.execKmovbKg d s
  | .kmovwKg d => Sys2Proof.Machine.execKmovwKg d s
  | .kmovdKg d => Sys2Proof.Machine.execKmovdKg d s
  | .kmovqKg d => Sys2Proof.Machine.execKmovqKg d s
  | .kmovbGk d => Sys2Proof.Machine.execKmovbGk d s
  | .kmovwGk d => Sys2Proof.Machine.execKmovwGk d s
  | .kmovdGk d => Sys2Proof.Machine.execKmovdGk d s
  | .kmovqGk d => Sys2Proof.Machine.execKmovqGk d s
  | .vpcomb d => Sys2Proof.Machine.execVpcomb d s
  | .vpcomw d => Sys2Proof.Machine.execVpcomw d s
  | .vpcomd d => Sys2Proof.Machine.execVpcomd d s
  | .vpcomq d => Sys2Proof.Machine.execVpcomq d s
  | .vpcomub d => Sys2Proof.Machine.execVpcomub d s
  | .vpcomuw d => Sys2Proof.Machine.execVpcomuw d s
  | .vpcomud d => Sys2Proof.Machine.execVpcomud d s
  | .vpcomuq d => Sys2Proof.Machine.execVpcomuq d s
  | .vpperm d => Sys2Proof.Machine.execVpperm d s
  | .vpcmov d => Sys2Proof.Machine.execVpcmov d s
  | .vpmacssww d => Sys2Proof.Machine.execVpmacssww d s
  | .vpmacsww d => Sys2Proof.Machine.execVpmacsww d s
  | .vpmacsswd d => Sys2Proof.Machine.execVpmacsswd d s
  | .vpmacswd d => Sys2Proof.Machine.execVpmacswd d s
  | .vpmacssdd d => Sys2Proof.Machine.execVpmacssdd d s
  | .vpmacsdd d => Sys2Proof.Machine.execVpmacsdd d s
  | .vpmacssdql d => Sys2Proof.Machine.execVpmacssdql d s
  | .vpmacsdql d => Sys2Proof.Machine.execVpmacsdql d s
  | .vpmacssdqh d => Sys2Proof.Machine.execVpmacssdqh d s
  | .vpmacsdqh d => Sys2Proof.Machine.execVpmacsdqh d s
  | .vpmadcsswd d => Sys2Proof.Machine.execVpmadcsswd d s
  | .vpmadcswd d => Sys2Proof.Machine.execVpmadcswd d s

end Sys2Proof.Machine
end

