-- ==== Sys2Proof/Decode.lean ====
section
/-! DEFINITION. Decoding and encoding of the 144-bit descriptor word (spec/30_encoding.md R110, R118, R119, R128).

Lean's compiled code has room for 244 constructors that carry data, and `Instr` has 250, so a function that builds an
`Instr` of the last six rows has no compiled code: `romXop`, `romTables`, `decode` and `decodeTableWord` are marked
noncomputable for that one reason (log 28). The kernel evaluates all four. `step` does not build an `Instr`
(Machine/HandlerRom.lean) and has compiled code. -/

namespace Sys2Proof

/-- Why a word decodes to no instruction. -/
inductive DecodeError where
  /-- R119: the handler id is not in the ROM. -/
  | unassigned (id : BitVec 10)
deriving DecidableEq, Repr

/-- R118: the ids of this family (0x000 to 0x000). -/
def romIllegal : List (BitVec 10 × (Desc → Instr)) := [
  (0x000#10, Instr.illegal)]

/-- R118: the ids of this family (0x010 to 0x036). -/
def romBitOps : List (BitVec 10 × (Desc → Instr)) := [
  (0x010#10, Instr.bt16G), (0x011#10, Instr.bt16I), (0x012#10, Instr.bt32G), (0x013#10, Instr.bt32I),
  (0x014#10, Instr.bt64G), (0x015#10, Instr.bt64I), (0x016#10, Instr.bts16G), (0x017#10, Instr.bts16I),
  (0x018#10, Instr.bts32G), (0x019#10, Instr.bts32I), (0x01A#10, Instr.bts64G), (0x01B#10, Instr.bts64I),
  (0x01C#10, Instr.btr16G), (0x01D#10, Instr.btr16I), (0x01E#10, Instr.btr32G), (0x01F#10, Instr.btr32I),
  (0x020#10, Instr.btr64G), (0x021#10, Instr.btr64I), (0x022#10, Instr.btc16G), (0x023#10, Instr.btc16I),
  (0x024#10, Instr.btc32G), (0x025#10, Instr.btc32I), (0x026#10, Instr.btc64G), (0x027#10, Instr.btc64I),
  (0x028#10, Instr.bsf16), (0x029#10, Instr.bsf32), (0x02A#10, Instr.bsf64), (0x02B#10, Instr.bsr16),
  (0x02C#10, Instr.bsr32), (0x02D#10, Instr.bsr64), (0x02E#10, Instr.popcnt16), (0x02F#10, Instr.popcnt32),
  (0x030#10, Instr.popcnt64), (0x031#10, Instr.tzcnt16), (0x032#10, Instr.tzcnt32), (0x033#10, Instr.tzcnt64),
  (0x034#10, Instr.lzcnt16), (0x035#10, Instr.lzcnt32), (0x036#10, Instr.lzcnt64)]

/-- R118: the ids of this family (0x040 to 0x059). -/
def romBmi : List (BitVec 10 × (Desc → Instr)) := [
  (0x040#10, Instr.andn32), (0x041#10, Instr.andn64), (0x042#10, Instr.bextr32), (0x043#10, Instr.bextr64),
  (0x044#10, Instr.blsi32), (0x045#10, Instr.blsi64), (0x046#10, Instr.blsmsk32), (0x047#10, Instr.blsmsk64),
  (0x048#10, Instr.blsr32), (0x049#10, Instr.blsr64), (0x04A#10, Instr.bzhi32), (0x04B#10, Instr.bzhi64),
  (0x04C#10, Instr.mulx32), (0x04D#10, Instr.mulx64), (0x04E#10, Instr.pdep32), (0x04F#10, Instr.pdep64),
  (0x050#10, Instr.pext32), (0x051#10, Instr.pext64), (0x052#10, Instr.rorx32), (0x053#10, Instr.rorx64),
  (0x054#10, Instr.sarx32), (0x055#10, Instr.sarx64), (0x056#10, Instr.shlx32), (0x057#10, Instr.shlx64),
  (0x058#10, Instr.shrx32), (0x059#10, Instr.shrx64)]

/-- R118: the ids of this family (0x060 to 0x073). -/
def romTbm : List (BitVec 10 × (Desc → Instr)) := [
  (0x060#10, Instr.bextri32), (0x061#10, Instr.bextri64), (0x062#10, Instr.blcfill32), (0x063#10, Instr.blcfill64),
  (0x064#10, Instr.blci32), (0x065#10, Instr.blci64), (0x066#10, Instr.blcic32), (0x067#10, Instr.blcic64),
  (0x068#10, Instr.blcmsk32), (0x069#10, Instr.blcmsk64), (0x06A#10, Instr.blcs32), (0x06B#10, Instr.blcs64),
  (0x06C#10, Instr.blsfill32), (0x06D#10, Instr.blsfill64), (0x06E#10, Instr.blsic32), (0x06F#10, Instr.blsic64),
  (0x070#10, Instr.t1mskc32), (0x071#10, Instr.t1mskc64), (0x072#10, Instr.tzmsk32), (0x073#10, Instr.tzmsk64)]

/-- R118: the ids of this family (0x080 to 0x0ab). -/
def romSimdS : List (BitVec 10 × (Desc → Instr)) := [
  (0x080#10, Instr.paddb), (0x081#10, Instr.paddw), (0x082#10, Instr.paddd), (0x083#10, Instr.paddq),
  (0x084#10, Instr.psubb), (0x085#10, Instr.psubw), (0x086#10, Instr.psubd), (0x087#10, Instr.psubq),
  (0x088#10, Instr.pand), (0x089#10, Instr.pandn), (0x08A#10, Instr.por), (0x08B#10, Instr.pxor),
  (0x08C#10, Instr.pcmpeqb), (0x08D#10, Instr.pcmpeqw), (0x08E#10, Instr.pcmpeqd), (0x08F#10, Instr.pcmpeqq),
  (0x090#10, Instr.pcmpgtb), (0x091#10, Instr.pcmpgtw), (0x092#10, Instr.pcmpgtd), (0x093#10, Instr.pcmpgtq),
  (0x094#10, Instr.pminsb), (0x095#10, Instr.pminsw), (0x096#10, Instr.pminsd), (0x097#10, Instr.pminub),
  (0x098#10, Instr.pminuw), (0x099#10, Instr.pminud), (0x09A#10, Instr.pmaxsb), (0x09B#10, Instr.pmaxsw),
  (0x09C#10, Instr.pmaxsd), (0x09D#10, Instr.pmaxub), (0x09E#10, Instr.pmaxuw), (0x09F#10, Instr.pmaxud),
  (0x0A0#10, Instr.psllwI), (0x0A1#10, Instr.pslldI), (0x0A2#10, Instr.psllqI), (0x0A3#10, Instr.psrlwI),
  (0x0A4#10, Instr.psrldI), (0x0A5#10, Instr.psrlqI), (0x0A6#10, Instr.psrawI), (0x0A7#10, Instr.psradI),
  (0x0A8#10, Instr.pshufd), (0x0A9#10, Instr.pshufb), (0x0AA#10, Instr.movdquLd), (0x0AB#10, Instr.movdquSt)]

/-- R118: the ids of this family (0x100 to 0x143). -/
def romSimdV : List (BitVec 10 × (Desc → Instr)) := [
  (0x100#10, Instr.vpaddb), (0x101#10, Instr.vpaddw), (0x102#10, Instr.vpaddd), (0x103#10, Instr.vpaddq),
  (0x104#10, Instr.vpsubb), (0x105#10, Instr.vpsubw), (0x106#10, Instr.vpsubd), (0x107#10, Instr.vpsubq),
  (0x108#10, Instr.vpandd), (0x109#10, Instr.vpandq), (0x10A#10, Instr.vpandnd), (0x10B#10, Instr.vpandnq),
  (0x10C#10, Instr.vpord), (0x10D#10, Instr.vporq), (0x10E#10, Instr.vpxord), (0x10F#10, Instr.vpxorq),
  (0x110#10, Instr.vpcmpeqb), (0x111#10, Instr.vpcmpeqw), (0x112#10, Instr.vpcmpeqd), (0x113#10, Instr.vpcmpeqq),
  (0x114#10, Instr.vpcmpgtb), (0x115#10, Instr.vpcmpgtw), (0x116#10, Instr.vpcmpgtd), (0x117#10, Instr.vpcmpgtq),
  (0x118#10, Instr.vpminsb), (0x119#10, Instr.vpminsw), (0x11A#10, Instr.vpminsd), (0x11B#10, Instr.vpminsq),
  (0x11C#10, Instr.vpminub), (0x11D#10, Instr.vpminuw), (0x11E#10, Instr.vpminud), (0x11F#10, Instr.vpminuq),
  (0x120#10, Instr.vpmaxsb), (0x121#10, Instr.vpmaxsw), (0x122#10, Instr.vpmaxsd), (0x123#10, Instr.vpmaxsq),
  (0x124#10, Instr.vpmaxub), (0x125#10, Instr.vpmaxuw), (0x126#10, Instr.vpmaxud), (0x127#10, Instr.vpmaxuq),
  (0x128#10, Instr.vpsllwI), (0x129#10, Instr.vpslldI), (0x12A#10, Instr.vpsllqI), (0x12B#10, Instr.vpsrlwI),
  (0x12C#10, Instr.vpsrldI), (0x12D#10, Instr.vpsrlqI), (0x12E#10, Instr.vpsrawI), (0x12F#10, Instr.vpsradI),
  (0x130#10, Instr.vpsraqI), (0x131#10, Instr.vpsllvw), (0x132#10, Instr.vpsllvd), (0x133#10, Instr.vpsllvq),
  (0x134#10, Instr.vpsrlvw), (0x135#10, Instr.vpsrlvd), (0x136#10, Instr.vpsrlvq), (0x137#10, Instr.vpsravw),
  (0x138#10, Instr.vpsravd), (0x139#10, Instr.vpsravq), (0x13A#10, Instr.vpshufd), (0x13B#10, Instr.vpshufb),
  (0x13C#10, Instr.vmovdqu8Ld), (0x13D#10, Instr.vmovdqu16Ld), (0x13E#10, Instr.vmovdqu32Ld), (0x13F#10, Instr.vmovdqu64Ld),
  (0x140#10, Instr.vmovdqu8St), (0x141#10, Instr.vmovdqu16St), (0x142#10, Instr.vmovdqu32St), (0x143#10, Instr.vmovdqu64St)]

/-- R118: the ids of this family (0x180 to 0x19d). -/
def romAvx512 : List (BitVec 10 × (Desc → Instr)) := [
  (0x180#10, Instr.vpcmpb), (0x181#10, Instr.vpcmpw), (0x182#10, Instr.vpcmpd), (0x183#10, Instr.vpcmpq),
  (0x184#10, Instr.vpcmpub), (0x185#10, Instr.vpcmpuw), (0x186#10, Instr.vpcmpud), (0x187#10, Instr.vpcmpuq),
  (0x188#10, Instr.vpcompressb), (0x189#10, Instr.vpcompressw), (0x18A#10, Instr.vpcompressd), (0x18B#10, Instr.vpcompressq),
  (0x18C#10, Instr.vpexpandb), (0x18D#10, Instr.vpexpandw), (0x18E#10, Instr.vpexpandd), (0x18F#10, Instr.vpexpandq),
  (0x190#10, Instr.vpermb), (0x191#10, Instr.vpermw), (0x192#10, Instr.vpermd), (0x193#10, Instr.vpermq),
  (0x194#10, Instr.valignd), (0x195#10, Instr.valignq), (0x196#10, Instr.kmovbKg), (0x197#10, Instr.kmovwKg),
  (0x198#10, Instr.kmovdKg), (0x199#10, Instr.kmovqKg), (0x19A#10, Instr.kmovbGk), (0x19B#10, Instr.kmovwGk),
  (0x19C#10, Instr.kmovdGk), (0x19D#10, Instr.kmovqGk)]

/-- R118: the ids of this family (0x200 to 0x215). -/
noncomputable def romXop : List (BitVec 10 × (Desc → Instr)) := [
  (0x200#10, Instr.vpcomb), (0x201#10, Instr.vpcomw), (0x202#10, Instr.vpcomd), (0x203#10, Instr.vpcomq),
  (0x204#10, Instr.vpcomub), (0x205#10, Instr.vpcomuw), (0x206#10, Instr.vpcomud), (0x207#10, Instr.vpcomuq),
  (0x208#10, Instr.vpperm), (0x209#10, Instr.vpcmov), (0x20A#10, Instr.vpmacssww), (0x20B#10, Instr.vpmacsww),
  (0x20C#10, Instr.vpmacsswd), (0x20D#10, Instr.vpmacswd), (0x20E#10, Instr.vpmacssdd), (0x20F#10, Instr.vpmacsdd),
  (0x210#10, Instr.vpmacssdql), (0x211#10, Instr.vpmacsdql), (0x212#10, Instr.vpmacssdqh), (0x213#10, Instr.vpmacsdqh),
  (0x214#10, Instr.vpmadcsswd), (0x215#10, Instr.vpmadcswd)]

/-- R118: the handler ROM, family by family. -/
noncomputable def romTables : List (List (BitVec 10 × (Desc → Instr))) :=
  [romIllegal, romBitOps, romBmi, romTbm, romSimdS, romSimdV, romAvx512, romXop]

/-- The entry of one family's rows at an id. -/
def romLookup (id : BitVec 10) : List (BitVec 10 × (Desc → Instr)) → Option (Desc → Instr)
  | [] => none
  | row :: rest => if row.1 = id then some row.2 else romLookup id rest

/-- The entry of the ROM at an id. -/
def romFind (id : BitVec 10) : List (List (BitVec 10 × (Desc → Instr))) → Option (Desc → Instr)
  | [] => none
  | rows :: rest =>
    match romLookup id rows with
    | some c => some c
    | none   => romFind id rest

/-- The fields of a descriptor word (R110). -/
def decodeFields (w : DescWord) : Desc where
  dst     := w.extractLsb' 10 5
  src1    := w.extractLsb' 15 5
  src2    := w.extractLsb' 20 5
  src3    := w.extractLsb' 25 5
  vl      := w.extractLsb' 30 2
  opmask  := w.extractLsb' 32 3
  zmask   := w.getLsbD 35
  memform := w.getLsbD 36
  ilen    := w.extractLsb' 37 4
  rsvd    := w.extractLsb' 41 7
  imm     := w.extractLsb' 48 32
  addr    := w.extractLsb' 80 64

/-- The instruction a descriptor word stands for: `handler` (bits 9:0) selects the ROM entry, an unassigned id is
rejected by name (R110, R118, R119). -/
noncomputable def decode (w : DescWord) : Except DecodeError Instr :=
  match romFind (w.extractLsb' 0 10) romTables with
  | some c => .ok (c (decodeFields w))
  | none   => .error (.unassigned (w.extractLsb' 0 10))

/-- The id of an instruction's handler (R118). -/
def Instr.handlerId : Instr → BitVec 10
  | .illegal _ => 0x000#10
  | .bt16G _ => 0x010#10
  | .bt16I _ => 0x011#10
  | .bt32G _ => 0x012#10
  | .bt32I _ => 0x013#10
  | .bt64G _ => 0x014#10
  | .bt64I _ => 0x015#10
  | .bts16G _ => 0x016#10
  | .bts16I _ => 0x017#10
  | .bts32G _ => 0x018#10
  | .bts32I _ => 0x019#10
  | .bts64G _ => 0x01A#10
  | .bts64I _ => 0x01B#10
  | .btr16G _ => 0x01C#10
  | .btr16I _ => 0x01D#10
  | .btr32G _ => 0x01E#10
  | .btr32I _ => 0x01F#10
  | .btr64G _ => 0x020#10
  | .btr64I _ => 0x021#10
  | .btc16G _ => 0x022#10
  | .btc16I _ => 0x023#10
  | .btc32G _ => 0x024#10
  | .btc32I _ => 0x025#10
  | .btc64G _ => 0x026#10
  | .btc64I _ => 0x027#10
  | .bsf16 _ => 0x028#10
  | .bsf32 _ => 0x029#10
  | .bsf64 _ => 0x02A#10
  | .bsr16 _ => 0x02B#10
  | .bsr32 _ => 0x02C#10
  | .bsr64 _ => 0x02D#10
  | .popcnt16 _ => 0x02E#10
  | .popcnt32 _ => 0x02F#10
  | .popcnt64 _ => 0x030#10
  | .tzcnt16 _ => 0x031#10
  | .tzcnt32 _ => 0x032#10
  | .tzcnt64 _ => 0x033#10
  | .lzcnt16 _ => 0x034#10
  | .lzcnt32 _ => 0x035#10
  | .lzcnt64 _ => 0x036#10
  | .andn32 _ => 0x040#10
  | .andn64 _ => 0x041#10
  | .bextr32 _ => 0x042#10
  | .bextr64 _ => 0x043#10
  | .blsi32 _ => 0x044#10
  | .blsi64 _ => 0x045#10
  | .blsmsk32 _ => 0x046#10
  | .blsmsk64 _ => 0x047#10
  | .blsr32 _ => 0x048#10
  | .blsr64 _ => 0x049#10
  | .bzhi32 _ => 0x04A#10
  | .bzhi64 _ => 0x04B#10
  | .mulx32 _ => 0x04C#10
  | .mulx64 _ => 0x04D#10
  | .pdep32 _ => 0x04E#10
  | .pdep64 _ => 0x04F#10
  | .pext32 _ => 0x050#10
  | .pext64 _ => 0x051#10
  | .rorx32 _ => 0x052#10
  | .rorx64 _ => 0x053#10
  | .sarx32 _ => 0x054#10
  | .sarx64 _ => 0x055#10
  | .shlx32 _ => 0x056#10
  | .shlx64 _ => 0x057#10
  | .shrx32 _ => 0x058#10
  | .shrx64 _ => 0x059#10
  | .bextri32 _ => 0x060#10
  | .bextri64 _ => 0x061#10
  | .blcfill32 _ => 0x062#10
  | .blcfill64 _ => 0x063#10
  | .blci32 _ => 0x064#10
  | .blci64 _ => 0x065#10
  | .blcic32 _ => 0x066#10
  | .blcic64 _ => 0x067#10
  | .blcmsk32 _ => 0x068#10
  | .blcmsk64 _ => 0x069#10
  | .blcs32 _ => 0x06A#10
  | .blcs64 _ => 0x06B#10
  | .blsfill32 _ => 0x06C#10
  | .blsfill64 _ => 0x06D#10
  | .blsic32 _ => 0x06E#10
  | .blsic64 _ => 0x06F#10
  | .t1mskc32 _ => 0x070#10
  | .t1mskc64 _ => 0x071#10
  | .tzmsk32 _ => 0x072#10
  | .tzmsk64 _ => 0x073#10
  | .paddb _ => 0x080#10
  | .paddw _ => 0x081#10
  | .paddd _ => 0x082#10
  | .paddq _ => 0x083#10
  | .psubb _ => 0x084#10
  | .psubw _ => 0x085#10
  | .psubd _ => 0x086#10
  | .psubq _ => 0x087#10
  | .pand _ => 0x088#10
  | .pandn _ => 0x089#10
  | .por _ => 0x08A#10
  | .pxor _ => 0x08B#10
  | .pcmpeqb _ => 0x08C#10
  | .pcmpeqw _ => 0x08D#10
  | .pcmpeqd _ => 0x08E#10
  | .pcmpeqq _ => 0x08F#10
  | .pcmpgtb _ => 0x090#10
  | .pcmpgtw _ => 0x091#10
  | .pcmpgtd _ => 0x092#10
  | .pcmpgtq _ => 0x093#10
  | .pminsb _ => 0x094#10
  | .pminsw _ => 0x095#10
  | .pminsd _ => 0x096#10
  | .pminub _ => 0x097#10
  | .pminuw _ => 0x098#10
  | .pminud _ => 0x099#10
  | .pmaxsb _ => 0x09A#10
  | .pmaxsw _ => 0x09B#10
  | .pmaxsd _ => 0x09C#10
  | .pmaxub _ => 0x09D#10
  | .pmaxuw _ => 0x09E#10
  | .pmaxud _ => 0x09F#10
  | .psllwI _ => 0x0A0#10
  | .pslldI _ => 0x0A1#10
  | .psllqI _ => 0x0A2#10
  | .psrlwI _ => 0x0A3#10
  | .psrldI _ => 0x0A4#10
  | .psrlqI _ => 0x0A5#10
  | .psrawI _ => 0x0A6#10
  | .psradI _ => 0x0A7#10
  | .pshufd _ => 0x0A8#10
  | .pshufb _ => 0x0A9#10
  | .movdquLd _ => 0x0AA#10
  | .movdquSt _ => 0x0AB#10
  | .vpaddb _ => 0x100#10
  | .vpaddw _ => 0x101#10
  | .vpaddd _ => 0x102#10
  | .vpaddq _ => 0x103#10
  | .vpsubb _ => 0x104#10
  | .vpsubw _ => 0x105#10
  | .vpsubd _ => 0x106#10
  | .vpsubq _ => 0x107#10
  | .vpandd _ => 0x108#10
  | .vpandq _ => 0x109#10
  | .vpandnd _ => 0x10A#10
  | .vpandnq _ => 0x10B#10
  | .vpord _ => 0x10C#10
  | .vporq _ => 0x10D#10
  | .vpxord _ => 0x10E#10
  | .vpxorq _ => 0x10F#10
  | .vpcmpeqb _ => 0x110#10
  | .vpcmpeqw _ => 0x111#10
  | .vpcmpeqd _ => 0x112#10
  | .vpcmpeqq _ => 0x113#10
  | .vpcmpgtb _ => 0x114#10
  | .vpcmpgtw _ => 0x115#10
  | .vpcmpgtd _ => 0x116#10
  | .vpcmpgtq _ => 0x117#10
  | .vpminsb _ => 0x118#10
  | .vpminsw _ => 0x119#10
  | .vpminsd _ => 0x11A#10
  | .vpminsq _ => 0x11B#10
  | .vpminub _ => 0x11C#10
  | .vpminuw _ => 0x11D#10
  | .vpminud _ => 0x11E#10
  | .vpminuq _ => 0x11F#10
  | .vpmaxsb _ => 0x120#10
  | .vpmaxsw _ => 0x121#10
  | .vpmaxsd _ => 0x122#10
  | .vpmaxsq _ => 0x123#10
  | .vpmaxub _ => 0x124#10
  | .vpmaxuw _ => 0x125#10
  | .vpmaxud _ => 0x126#10
  | .vpmaxuq _ => 0x127#10
  | .vpsllwI _ => 0x128#10
  | .vpslldI _ => 0x129#10
  | .vpsllqI _ => 0x12A#10
  | .vpsrlwI _ => 0x12B#10
  | .vpsrldI _ => 0x12C#10
  | .vpsrlqI _ => 0x12D#10
  | .vpsrawI _ => 0x12E#10
  | .vpsradI _ => 0x12F#10
  | .vpsraqI _ => 0x130#10
  | .vpsllvw _ => 0x131#10
  | .vpsllvd _ => 0x132#10
  | .vpsllvq _ => 0x133#10
  | .vpsrlvw _ => 0x134#10
  | .vpsrlvd _ => 0x135#10
  | .vpsrlvq _ => 0x136#10
  | .vpsravw _ => 0x137#10
  | .vpsravd _ => 0x138#10
  | .vpsravq _ => 0x139#10
  | .vpshufd _ => 0x13A#10
  | .vpshufb _ => 0x13B#10
  | .vmovdqu8Ld _ => 0x13C#10
  | .vmovdqu16Ld _ => 0x13D#10
  | .vmovdqu32Ld _ => 0x13E#10
  | .vmovdqu64Ld _ => 0x13F#10
  | .vmovdqu8St _ => 0x140#10
  | .vmovdqu16St _ => 0x141#10
  | .vmovdqu32St _ => 0x142#10
  | .vmovdqu64St _ => 0x143#10
  | .vpcmpb _ => 0x180#10
  | .vpcmpw _ => 0x181#10
  | .vpcmpd _ => 0x182#10
  | .vpcmpq _ => 0x183#10
  | .vpcmpub _ => 0x184#10
  | .vpcmpuw _ => 0x185#10
  | .vpcmpud _ => 0x186#10
  | .vpcmpuq _ => 0x187#10
  | .vpcompressb _ => 0x188#10
  | .vpcompressw _ => 0x189#10
  | .vpcompressd _ => 0x18A#10
  | .vpcompressq _ => 0x18B#10
  | .vpexpandb _ => 0x18C#10
  | .vpexpandw _ => 0x18D#10
  | .vpexpandd _ => 0x18E#10
  | .vpexpandq _ => 0x18F#10
  | .vpermb _ => 0x190#10
  | .vpermw _ => 0x191#10
  | .vpermd _ => 0x192#10
  | .vpermq _ => 0x193#10
  | .valignd _ => 0x194#10
  | .valignq _ => 0x195#10
  | .kmovbKg _ => 0x196#10
  | .kmovwKg _ => 0x197#10
  | .kmovdKg _ => 0x198#10
  | .kmovqKg _ => 0x199#10
  | .kmovbGk _ => 0x19A#10
  | .kmovwGk _ => 0x19B#10
  | .kmovdGk _ => 0x19C#10
  | .kmovqGk _ => 0x19D#10
  | .vpcomb _ => 0x200#10
  | .vpcomw _ => 0x201#10
  | .vpcomd _ => 0x202#10
  | .vpcomq _ => 0x203#10
  | .vpcomub _ => 0x204#10
  | .vpcomuw _ => 0x205#10
  | .vpcomud _ => 0x206#10
  | .vpcomuq _ => 0x207#10
  | .vpperm _ => 0x208#10
  | .vpcmov _ => 0x209#10
  | .vpmacssww _ => 0x20A#10
  | .vpmacsww _ => 0x20B#10
  | .vpmacsswd _ => 0x20C#10
  | .vpmacswd _ => 0x20D#10
  | .vpmacssdd _ => 0x20E#10
  | .vpmacsdd _ => 0x20F#10
  | .vpmacssdql _ => 0x210#10
  | .vpmacsdql _ => 0x211#10
  | .vpmacssdqh _ => 0x212#10
  | .vpmacsdqh _ => 0x213#10
  | .vpmadcsswd _ => 0x214#10
  | .vpmadcswd _ => 0x215#10

/-- R128: the descriptor word of a handler id and a descriptor. -/
def encodeFields (id : BitVec 10) (d : Desc) : DescWord :=
  d.addr ++ d.imm ++ d.rsvd ++ d.ilen ++ BitVec.ofBool d.memform ++ BitVec.ofBool d.zmask ++ d.opmask ++ d.vl ++
    d.src3 ++ d.src2 ++ d.src1 ++ d.dst ++ id

/-- R128: the descriptor word of an instruction. -/
def encode (i : Instr) : DescWord :=
  encodeFields i.handlerId i.desc

/-- The descriptor word whose low `nbits` bits are those of `w` and whose other bits are 0. -/
def tableWord (nbits w : Nat) : DescWord :=
  BitVec.ofNat 144 (w % 2 ^ nbits)

/-- The instruction the decoder reads from an opcode-table word: bit 0 of `w` is bit 0 of the descriptor, every bit
from `nbits` up is 0. The descriptor is one word on a port, so no byte order enters (R84, R110). -/
noncomputable def decodeTableWord (nbits w : Nat) : Option Instr :=
  match decode (tableWord nbits w) with
  | .ok i    => some i
  | .error _ => none

end Sys2Proof
end

