-- ==== Sys2Proof/Machine/HandlerRom.lean ====
section
/-! DEFINITION. The handler ROM as the machine reads it (spec/30_encoding.md R118, "a decoded-instruction descriptor to one
operation"): each id with its meaning. It holds the rows of `romTables` with the arms of `exec`; it builds no `Instr`, so
`step` has compiled code (log 28). -/

namespace Sys2Proof.Machine

/-- The rows of `romIllegal`. -/
def meaningsIllegal : List (BitVec 10 × (Desc → State → StepOutcome)) := [
  (0x000#10, execIllegal)]

/-- The rows of `romBitOps`. -/
def meaningsBitOps : List (BitVec 10 × (Desc → State → StepOutcome)) := [
  (0x010#10, execBt16G), (0x011#10, execBt16I), (0x012#10, execBt32G), (0x013#10, execBt32I),
  (0x014#10, execBt64G), (0x015#10, execBt64I), (0x016#10, execBts16G), (0x017#10, execBts16I),
  (0x018#10, execBts32G), (0x019#10, execBts32I), (0x01A#10, execBts64G), (0x01B#10, execBts64I),
  (0x01C#10, execBtr16G), (0x01D#10, execBtr16I), (0x01E#10, execBtr32G), (0x01F#10, execBtr32I),
  (0x020#10, execBtr64G), (0x021#10, execBtr64I), (0x022#10, execBtc16G), (0x023#10, execBtc16I),
  (0x024#10, execBtc32G), (0x025#10, execBtc32I), (0x026#10, execBtc64G), (0x027#10, execBtc64I),
  (0x028#10, execBsf16), (0x029#10, execBsf32), (0x02A#10, execBsf64), (0x02B#10, execBsr16),
  (0x02C#10, execBsr32), (0x02D#10, execBsr64), (0x02E#10, execPopcnt16), (0x02F#10, execPopcnt32),
  (0x030#10, execPopcnt64), (0x031#10, execTzcnt16), (0x032#10, execTzcnt32), (0x033#10, execTzcnt64),
  (0x034#10, execLzcnt16), (0x035#10, execLzcnt32), (0x036#10, execLzcnt64)]

/-- The rows of `romBmi`. -/
def meaningsBmi : List (BitVec 10 × (Desc → State → StepOutcome)) := [
  (0x040#10, execAndn32), (0x041#10, execAndn64), (0x042#10, execBextr32), (0x043#10, execBextr64),
  (0x044#10, execBlsi32), (0x045#10, execBlsi64), (0x046#10, execBlsmsk32), (0x047#10, execBlsmsk64),
  (0x048#10, execBlsr32), (0x049#10, execBlsr64), (0x04A#10, execBzhi32), (0x04B#10, execBzhi64),
  (0x04C#10, execMulx32), (0x04D#10, execMulx64), (0x04E#10, execPdep32), (0x04F#10, execPdep64),
  (0x050#10, execPext32), (0x051#10, execPext64), (0x052#10, execRorx32), (0x053#10, execRorx64),
  (0x054#10, execSarx32), (0x055#10, execSarx64), (0x056#10, execShlx32), (0x057#10, execShlx64),
  (0x058#10, execShrx32), (0x059#10, execShrx64)]

/-- The rows of `romTbm`. -/
def meaningsTbm : List (BitVec 10 × (Desc → State → StepOutcome)) := [
  (0x060#10, execBextri32), (0x061#10, execBextri64), (0x062#10, execBlcfill32), (0x063#10, execBlcfill64),
  (0x064#10, execBlci32), (0x065#10, execBlci64), (0x066#10, execBlcic32), (0x067#10, execBlcic64),
  (0x068#10, execBlcmsk32), (0x069#10, execBlcmsk64), (0x06A#10, execBlcs32), (0x06B#10, execBlcs64),
  (0x06C#10, execBlsfill32), (0x06D#10, execBlsfill64), (0x06E#10, execBlsic32), (0x06F#10, execBlsic64),
  (0x070#10, execT1mskc32), (0x071#10, execT1mskc64), (0x072#10, execTzmsk32), (0x073#10, execTzmsk64)]

/-- The rows of `romSimdS`. -/
def meaningsSimdS : List (BitVec 10 × (Desc → State → StepOutcome)) := [
  (0x080#10, execPaddb), (0x081#10, execPaddw), (0x082#10, execPaddd), (0x083#10, execPaddq),
  (0x084#10, execPsubb), (0x085#10, execPsubw), (0x086#10, execPsubd), (0x087#10, execPsubq),
  (0x088#10, execPand), (0x089#10, execPandn), (0x08A#10, execPor), (0x08B#10, execPxor),
  (0x08C#10, execPcmpeqb), (0x08D#10, execPcmpeqw), (0x08E#10, execPcmpeqd), (0x08F#10, execPcmpeqq),
  (0x090#10, execPcmpgtb), (0x091#10, execPcmpgtw), (0x092#10, execPcmpgtd), (0x093#10, execPcmpgtq),
  (0x094#10, execPminsb), (0x095#10, execPminsw), (0x096#10, execPminsd), (0x097#10, execPminub),
  (0x098#10, execPminuw), (0x099#10, execPminud), (0x09A#10, execPmaxsb), (0x09B#10, execPmaxsw),
  (0x09C#10, execPmaxsd), (0x09D#10, execPmaxub), (0x09E#10, execPmaxuw), (0x09F#10, execPmaxud),
  (0x0A0#10, execPsllwI), (0x0A1#10, execPslldI), (0x0A2#10, execPsllqI), (0x0A3#10, execPsrlwI),
  (0x0A4#10, execPsrldI), (0x0A5#10, execPsrlqI), (0x0A6#10, execPsrawI), (0x0A7#10, execPsradI),
  (0x0A8#10, execPshufd), (0x0A9#10, execPshufb), (0x0AA#10, execMovdquLd), (0x0AB#10, execMovdquSt)]

/-- The rows of `romSimdV`. -/
def meaningsSimdV : List (BitVec 10 × (Desc → State → StepOutcome)) := [
  (0x100#10, execVpaddb), (0x101#10, execVpaddw), (0x102#10, execVpaddd), (0x103#10, execVpaddq),
  (0x104#10, execVpsubb), (0x105#10, execVpsubw), (0x106#10, execVpsubd), (0x107#10, execVpsubq),
  (0x108#10, execVpandd), (0x109#10, execVpandq), (0x10A#10, execVpandnd), (0x10B#10, execVpandnq),
  (0x10C#10, execVpord), (0x10D#10, execVporq), (0x10E#10, execVpxord), (0x10F#10, execVpxorq),
  (0x110#10, execVpcmpeqb), (0x111#10, execVpcmpeqw), (0x112#10, execVpcmpeqd), (0x113#10, execVpcmpeqq),
  (0x114#10, execVpcmpgtb), (0x115#10, execVpcmpgtw), (0x116#10, execVpcmpgtd), (0x117#10, execVpcmpgtq),
  (0x118#10, execVpminsb), (0x119#10, execVpminsw), (0x11A#10, execVpminsd), (0x11B#10, execVpminsq),
  (0x11C#10, execVpminub), (0x11D#10, execVpminuw), (0x11E#10, execVpminud), (0x11F#10, execVpminuq),
  (0x120#10, execVpmaxsb), (0x121#10, execVpmaxsw), (0x122#10, execVpmaxsd), (0x123#10, execVpmaxsq),
  (0x124#10, execVpmaxub), (0x125#10, execVpmaxuw), (0x126#10, execVpmaxud), (0x127#10, execVpmaxuq),
  (0x128#10, execVpsllwI), (0x129#10, execVpslldI), (0x12A#10, execVpsllqI), (0x12B#10, execVpsrlwI),
  (0x12C#10, execVpsrldI), (0x12D#10, execVpsrlqI), (0x12E#10, execVpsrawI), (0x12F#10, execVpsradI),
  (0x130#10, execVpsraqI), (0x131#10, execVpsllvw), (0x132#10, execVpsllvd), (0x133#10, execVpsllvq),
  (0x134#10, execVpsrlvw), (0x135#10, execVpsrlvd), (0x136#10, execVpsrlvq), (0x137#10, execVpsravw),
  (0x138#10, execVpsravd), (0x139#10, execVpsravq), (0x13A#10, execVpshufd), (0x13B#10, execVpshufb),
  (0x13C#10, execVmovdqu8Ld), (0x13D#10, execVmovdqu16Ld), (0x13E#10, execVmovdqu32Ld), (0x13F#10, execVmovdqu64Ld),
  (0x140#10, execVmovdqu8St), (0x141#10, execVmovdqu16St), (0x142#10, execVmovdqu32St), (0x143#10, execVmovdqu64St)]

/-- The rows of `romAvx512`. -/
def meaningsAvx512 : List (BitVec 10 × (Desc → State → StepOutcome)) := [
  (0x180#10, execVpcmpb), (0x181#10, execVpcmpw), (0x182#10, execVpcmpd), (0x183#10, execVpcmpq),
  (0x184#10, execVpcmpub), (0x185#10, execVpcmpuw), (0x186#10, execVpcmpud), (0x187#10, execVpcmpuq),
  (0x188#10, execVpcompressb), (0x189#10, execVpcompressw), (0x18A#10, execVpcompressd), (0x18B#10, execVpcompressq),
  (0x18C#10, execVpexpandb), (0x18D#10, execVpexpandw), (0x18E#10, execVpexpandd), (0x18F#10, execVpexpandq),
  (0x190#10, execVpermb), (0x191#10, execVpermw), (0x192#10, execVpermd), (0x193#10, execVpermq),
  (0x194#10, execValignd), (0x195#10, execValignq), (0x196#10, execKmovbKg), (0x197#10, execKmovwKg),
  (0x198#10, execKmovdKg), (0x199#10, execKmovqKg), (0x19A#10, execKmovbGk), (0x19B#10, execKmovwGk),
  (0x19C#10, execKmovdGk), (0x19D#10, execKmovqGk)]

/-- The rows of `romXop`. -/
def meaningsXop : List (BitVec 10 × (Desc → State → StepOutcome)) := [
  (0x200#10, execVpcomb), (0x201#10, execVpcomw), (0x202#10, execVpcomd), (0x203#10, execVpcomq),
  (0x204#10, execVpcomub), (0x205#10, execVpcomuw), (0x206#10, execVpcomud), (0x207#10, execVpcomuq),
  (0x208#10, execVpperm), (0x209#10, execVpcmov), (0x20A#10, execVpmacssww), (0x20B#10, execVpmacsww),
  (0x20C#10, execVpmacsswd), (0x20D#10, execVpmacswd), (0x20E#10, execVpmacssdd), (0x20F#10, execVpmacsdd),
  (0x210#10, execVpmacssdql), (0x211#10, execVpmacsdql), (0x212#10, execVpmacssdqh), (0x213#10, execVpmacsdqh),
  (0x214#10, execVpmadcsswd), (0x215#10, execVpmadcswd)]

/-- R118: the handler ROM, family by family. -/
def meanings : List (List (BitVec 10 × (Desc → State → StepOutcome))) :=
  [meaningsIllegal, meaningsBitOps, meaningsBmi, meaningsTbm, meaningsSimdS, meaningsSimdV, meaningsAvx512, meaningsXop]

/-- The meaning at an id in one family's rows. -/
def meaningIn (id : BitVec 10) :
    List (BitVec 10 × (Desc → State → StepOutcome)) → Option (Desc → State → StepOutcome)
  | [] => none
  | row :: rest => if row.1 = id then some row.2 else meaningIn id rest

/-- The meaning at an id. -/
def meaningAt (id : BitVec 10) :
    List (List (BitVec 10 × (Desc → State → StepOutcome))) → Option (Desc → State → StepOutcome)
  | [] => none
  | rows :: rest =>
    match meaningIn id rows with
    | some f => some f
    | none   => meaningAt id rest

/-- R180: one step of the EE in focus on a descriptor word. An unassigned id raises `InvalidOpcode` (R119). -/
def runWord (w : DescWord) (s : State) : StepOutcome :=
  match meaningAt (w.extractLsb' 0 10) meanings with
  | some f => f (decodeFields w) s
  | none   => .next (s.raise .invalidOpcode)

end Sys2Proof.Machine
end

