-- ==== Sys2Proof/Machine/Reset.lean ====
section
/-! DEFINITION. Resets and mode changes (spec/70_reset_and_hazards.md R460 to R464, spec/60_exceptions.md R436). -/

namespace Sys2Proof.Machine

/-- The kinds of reset of R462. -/
inductive ResetKind where
  | hardware | software | init
deriving DecidableEq, Repr

/-- R436, R462: the logical identifier an x2APIC derives from its `apic_id`. -/
def x2apicLdr (id : BitVec 32) : BitVec 32 :=
  (id &&& 0xFFFFFFF0#32) <<< 16 ||| 1#32 <<< (id &&& 0xF#32).toNat

/-- R462: the LAPIC after `reset(kind)`. Every field takes its value of R72; the timer handle is kept and disarmed. -/
def Lapic.afterReset (kind : ResetKind) (id0 : BitVec 32) (l : Lapic) : Lapic :=
  let handle := if l.timerActive then l.deactivateTimer.timerHandle else l.timerHandle
  match kind with
  | .hardware => { Lapic.reset id0 with timerHandle := handle }
  | _ =>
    { Lapic.reset l.apicId with
        timerHandle := handle
        mode        := l.mode
        ldr         := if l.mode = .x2apic then x2apicLdr l.apicId else 0#32 }

/-- R462: `reset(kind)` of a LAPIC whose `APIC_ID0` is `id0`. -/
def Lapic.doReset (kind : ResetKind) (id0 : BitVec 32) (l : Lapic) : LapicEff :=
  (l.afterReset kind id0, [.clearEvent])

/-- R436: `set_mode(m)`: whether it succeeds, and what it leaves. -/
def Lapic.setMode (cfg : Config) (m : ApicMode) (l : Lapic) : Bool × LapicEff :=
  if m = l.mode then (true, (l, []))
  else
    match l.mode, m with
    | .xapic, .x2apic =>
      if cfg.x2apicSupported then (true, ({ l with mode := .x2apic, ldr := x2apicLdr l.apicId }, []))
      else (false, (l, []))
    | .x2apic, .xapic => (false, (l, []))
    | .disabled, .x2apic | .globallyDisabled, .x2apic => (false, (l, []))
    | .disabled, _ | .globallyDisabled, _ => (true, ({ l with mode := m }, []))
    | _, _ => (true, ({ l.afterReset .software l.apicId with ldr := 0#32, mode := m }, [.clearEvent]))

/-- R464: `software_reset` of the CPU in focus. -/
def State.softwareReset (s : State) : State :=
  State.putLapic { s with cpu := { s.cpu with ee := Ee.reset s.cfg } } (s.cpu.lapic.doReset .software s.cpu.apicId0)

/-- R463: `init` of the CPU in focus: the LAPIC only. -/
def State.initLapic (s : State) : State :=
  s.putLapic (s.cpu.lapic.doReset .init s.cpu.apicId0)

/-- R461: one CPU after a hardware reset. -/
def Cpu.hardwareReset (cfg : Config) (c : Cpu) : Cpu :=
  { c with ee := Ee.reset cfg, lapic := (c.lapic.doReset .hardware c.apicId0).1 }

/-- R460, R461: `hardware_reset`, every CPU; `now` and memory are kept. -/
def State.hardwareReset (s : State) : State :=
  { s with
      below := s.below.map (Cpu.hardwareReset s.cfg)
      cpu   := s.cpu.hardwareReset s.cfg
      above := s.above.map (Cpu.hardwareReset s.cfg)
      trace := s.trace ++ (List.range s.cpus.length).map fun i => Output.lapic i .clearEvent }

end Sys2Proof.Machine
end

