-- ==== Sys2Proof/Machine/Inputs.lean ====
section
/-! DEFINITION. What one element of the schedule does (spec/00_scope.md R4, spec/60_exceptions.md R360,
spec/70_reset_and_hazards.md R460): the descriptors `CTRL[c]` presents, its calls, the time facility, the bus's environment. -/

namespace Sys2Proof.Machine

/-- The machine with CPU `c` in focus, if it has one (log 14). -/
def State.focusOn (s : State) (c : Nat) : Option State :=
  match s.cpus.drop c with
  | cpu :: above => some { s with below := s.cpus.take c, cpu := cpu, above := above }
  | []           => none

/-- An action of the agents of CPU `c`. -/
def State.onCpu (s : State) (c : Nat) (f : State → StepOutcome) : StepOutcome :=
  match s.focusOn c with
  | some s => f s
  | none   => .refused (.noSuchCpu c)

/-- Something leaves the block. -/
def State.output (s : State) (o : Output) : State :=
  { s with trace := s.trace ++ [o] }

/-- R365: `CTRL[c]` calls `acknowledge_int`. -/
def runAcknowledge (s : State) : StepOutcome :=
  match s.cpu.lapic.acknowledgeInt s.cfg with
  | .ok r    => .next ((s.putLapic r.2).output (.acknowledged s.focus r.1))
  | .error i => .fault (.invariantViolation i)

/-- R431: `CTRL[c]` calls `read_x2apic`. -/
def runMsrRead (index : BitVec 8) (s : State) : StepOutcome :=
  match s.cpu.lapic.x2apicRead s.cfg s.now index with
  | .ok r    => .next ((s.putLapic r.2).output (.msrRead s.focus r.1))
  | .error i => .fault (.invariantViolation i)

/-- R432: `CTRL[c]` calls `write_x2apic`. -/
def runMsrWrite (index : BitVec 8) (hi lo : BitVec 32) (s : State) : StepOutcome :=
  match s.x2apicWrite index hi lo with
  | .ok r    => .next (r.2.output (.msrWritten s.focus r.1))
  | .error i => .fault (.invariantViolation i)

/-- R436: `CTRL[c]` calls `set_mode`. -/
def runSetMode (m : ApicMode) (s : State) : StepOutcome :=
  let r := s.cpu.lapic.setMode s.cfg m
  .next ((s.putLapic r.2).output (.modeSet s.focus r.1))

/-- R407: `CTRL[c]` calls `set_tsc_deadline`. -/
def runSetDeadline (deadline : Word) (s : State) : StepOutcome :=
  .next (s.putLapic (s.cpu.lapic.setDeadline s.now deadline, []))

/-- R408: `CTRL[c]` calls `get_tsc_deadline`. -/
def runGetDeadline (s : State) : StepOutcome :=
  .next (s.output (.deadlineRead s.focus s.cpu.lapic.deadline))

/-- R70: one step of the search for the armed handle that expires first: its CPU and the ticks until then. -/
def State.soonerOf (s : State) (best : Option (Nat × Word)) (i : Nat) : Option (Nat × Word) :=
  match s.lapicAt i with
  | none => best
  | some l =>
    if l.timerHandle.armed then
      let dist := l.timerHandle.expiry - s.now
      match best with
      | none => some (i, dist)
      | some (j, d) => if dist.toNat < d.toNat then some (i, dist) else some (j, d)
    else best

/-- R70: the armed handle that expires first, the lowest CPU index among equals (log 19). -/
def State.nextExpiry (s : State) : Option (Nat × Word) :=
  (List.range s.cpus.length).foldl s.soonerOf none

/-- R70, R406: the facility disarms the handle of `LAPIC[i]` and invokes its `periodic()`. -/
def State.callback (s : State) (i : Nat) : State :=
  s.onLapic i fun l => l.deactivateTimer.periodic s.cfg s.now

/-- R70: the callback of `l` is due: its handle is armed and `now` is its expiry. -/
def Lapic.isDue (now : Word) (l : Lapic) : Bool :=
  l.timerHandle.armed && decide (l.timerHandle.expiry = now)

/-- R70, R373, R406: `TIME` invokes the callback of the LAPIC in focus, if it is due. Otherwise the facility invokes nothing;
a stale callback has no effect (R406). -/
def runPeriodic (s : State) : StepOutcome :=
  .next (if s.cpu.lapic.isDue s.now then s.callback s.focus else s)

/-- R70, R373: `TIME` advances `now` by `ticks`. An advance up to the first expiry leaves that callback due, so that any
other agent may act at that tick before it; the callback is the schedule element `periodic`. An advance beyond the first
expiry goes to it and invokes the callback, and the rest of the advance stays at the head of the schedule, so that `now`
never passes an expiry (log 19). -/
def State.advanceTime (s : State) (ticks : Word) : State :=
  let whole := { s with now := s.now + ticks }
  match s.nextExpiry with
  | none => whole
  | some (i, dist) =>
    if ticks.toNat ≤ dist.toNat then whole
    else
      let s := State.callback { s with now := s.now + dist } i
      { s with inputs := .advanceTime (ticks - dist) :: s.inputs }

/-- What one element of the schedule does. -/
def runInput (i : Input) (s : State) : StepOutcome :=
  match i with
  | .descriptor c w          => s.onCpu c (runWord w)
  | .acknowledgeInt c        => s.onCpu c runAcknowledge
  | .readX2apic c ix         => s.onCpu c (runMsrRead ix)
  | .writeX2apic c ix hi lo  => s.onCpu c (runMsrWrite ix hi lo)
  | .setMode c m             => s.onCpu c (runSetMode m)
  | .setTscDeadline c t      => s.onCpu c (runSetDeadline t)
  | .getTscDeadline c        => s.onCpu c runGetDeadline
  | .init c                  => s.onCpu c fun s => .next s.initLapic
  | .softwareReset c         => s.onCpu c fun s => .next s.softwareReset
  | .hardwareReset           => .next s.hardwareReset
  | .busMessage dest dm lg trig v =>
    let r := s.busDeliver false dest dm lg trig v
    .next (r.2.output (.busAccepted r.1))
  | .triggerIrq c v trig     => s.onCpu c fun s => .next (s.putLapic (s.cpu.lapic.triggerIrq s.cfg v trig false))
  | .advanceTime ticks       => .next (s.advanceTime ticks)
  | .periodic c              => s.onCpu c runPeriodic
  | .memWrite a b            => .next { s with mem := Memory.write s.mem a.toNat b }
  | .memFaults rs            => .next { s with memFaults := rs }

/-- The descriptor word under which CTRL presents an opcode-table word of `nbits` bits: those bits, every other bit 0, but that
`ilen` (bits 40:37), which R110 requires to be 1 to 15 and which is the decoder's measurement, is 1 where the table gives it
no bit (log 1). -/
def presentedWord (nbits w : Nat) : DescWord :=
  if nbits ≤ 37 then tableWord nbits w ||| 1#144 <<< 37 else tableWord nbits w

end Sys2Proof.Machine
end

