-- ==== Sys2Proof/Machine/Step.lean ====
section
/-! DEFINITION. One step of the machine: the next element of the schedule is consumed (spec/00_scope.md R4,
spec/30_encoding.md R111, spec/70_reset_and_hazards.md R467). -/

namespace Sys2Proof.Machine

/-- One step. With nothing left in the schedule the machine idles: R467 calls that the normal end of a run (log 17). -/
def step (s : State) : Host.Outcome State Fault Refusal :=
  match s.inputs with
  | []        => .next s
  | i :: rest => runInput i { s with inputs := rest }

/-- The machine to which `CTRL` of the CPU in focus presents an opcode-table word as the next descriptor (log 1). -/
def State.withFetchWord (s : State) (nbits w : Nat) : State :=
  { s with inputs := .descriptor s.focus (presentedWord nbits w) :: s.inputs }

end Sys2Proof.Machine
end

