-- ==== Sys2Proof/WellFormed.lean ====
section
/-! DEFINITION. Well-formedness of an instruction (spec/30_encoding.md R120). The checks themselves stand in
Machine/Rom.lean. -/

namespace Sys2Proof

/-- R120: the descriptor is well-formed for its handler. -/
abbrev Instr.WellFormed (i : Instr) : Prop :=
  i.malformed? = none

end Sys2Proof
end

