-- ==== Sys2Proof/Safety.lean ====
section
/-! DEFINITION. What holds of a safe run: the canonical form of memory and the invariants of the registers
(spec/10_state.md R15 to R17, R30 to R67, R70), and the terms in which the
statements of Certificates/Slice0/Obligations.lean say what an instruction does and what it leaves alone. -/

namespace Sys2Proof.Machine

/-- R15, R17: the condition flags are bits 0, 2, 4, 6, 7 and 11 of RFLAGS. -/
def conditionFlags : Word := 0x8D5#64

/-- R17, D7: bit 1 reads 1 and every other bit that is no condition flag reads 0. -/
abbrev Ee.Inv (e : Ee) : Prop :=
  e.rflags &&& ~~~ conditionFlags = 0x2#64

/-- R32 (c), R363: interrupt vectors 0 to 15 are in no bitmap, and a trigger-mode bit is set only for a vector that is pending
or in service. -/
abbrev Lapic.BitmapInv (l : Lapic) : Prop :=
  (bmWord l.irr 0 ||| bmWord l.isr 0 ||| bmWord l.tmr 0) &&& 0xFFFF#32 = 0#32 ∧
    ∀ n : Fin 8, bmWord l.tmr n.val &&& ~~~ (bmWord l.irr n.val ||| bmWord l.isr n.val) = 0#32

/-- R26, R364: the signal is asserted only while some vector is pending. -/
abbrev Lapic.SignalInv (l : Lapic) : Prop :=
  l.intrPending = true → ∃ n : Fin 8, bmWord l.irr n.val ≠ 0#32

/-- R30, R62, R70: the divide factor is the decoded configuration, whose bit 2 is 0, and the time facility's handle is armed
exactly while the timer is active. -/
abbrev Lapic.TimerInv (l : Lapic) : Prop :=
  l.timerDivideFactor = divideDecode l.timerDivconf ∧ l.timerDivconf.getLsbD 2 = false ∧
    l.timerHandle.armed = l.timerActive

/-- R54 to R59, R65, R434: the bits that read 0 in the stored registers. -/
abbrev Lapic.FieldInv (l : Lapic) : Prop :=
  l.lvtEntry 0 &&& ~~~ 0x000700FF#32 = 0#32 ∧ (∀ i : Fin 7, i.val ≠ 0 → l.lvtEntry i.val &&& ~~~ lvtMask i.val = 0#32) ∧
    l.icrLo.getLsbD 12 = false ∧ l.xapicExt &&& ~~~ 0x3#32 = 0#32 ∧
    (l.errorStatus ||| l.shadowErrorStatus) &&& ~~~ 0xC4#32 = 0#32

/-- R49, R55, R436: outside X2APIC mode the logical identifier has 8 bits and ICR_HI bits 31:24 only; X2APIC mode is entered
only where it is supported. -/
abbrev Lapic.ModeInv (cfg : Config) (l : Lapic) : Prop :=
  (l.mode ≠ .x2apic → l.ldr &&& ~~~ 0xFF#32 = 0#32 ∧ l.icrHi &&& 0x00FFFFFF#32 = 0#32) ∧
    (l.mode = .x2apic → cfg.x2apicSupported = true)

/-- The invariants of one LAPIC. -/
abbrev Lapic.Inv (cfg : Config) (l : Lapic) : Prop :=
  l.BitmapInv ∧ l.SignalInv ∧ l.TimerInv ∧ l.FieldInv ∧ l.ModeInv cfg

/-- The invariants of one CPU. -/
abbrev Cpu.Inv (cfg : Config) (c : Cpu) : Prop :=
  c.ee.Inv ∧ c.lapic.Inv cfg

/-- The invariants of the machine: memory in canonical form, every CPU in order. -/
abbrev State.Inv (s : State) : Prop :=
  Memory.wf s.mem ∧ ∀ c ∈ s.cpus, c.Inv s.cfg

/-- A step is safe when it answers with a next state in which the invariants hold. -/
def State.SafeStep (s : State) : Prop :=
  ∃ t, step s = .next t ∧ t.Inv

/-! What an instruction leaves alone. -/

/-- The instruction is one the machine runs: its descriptor is well-formed (R120) and its feature present (R121). -/
abbrev Ready (s : State) (i : Instr) : Prop :=
  i.WellFormed ∧ i.enabled s.cpu.features = true

/-- Every general, vector and opmask register that is not listed holds what it held. -/
structure KeepsRegisters (s t : State) (gprs vregs kregs : List Nat) : Prop where
  gpr  : ∀ i < 16, i ∉ gprs → t.gpr i = s.gpr i
  vreg : ∀ i < 32, i ∉ vregs → t.vreg i = s.vreg i
  kreg : ∀ i < 8, i ∉ kregs → t.kreg i = s.kreg i

/-- The six flags, every other bit of RFLAGS, and the model's count of free flag values are as they were. -/
abbrev KeepsFlags (s t : State) : Prop :=
  t.rflags = s.rflags ∧ t.draws = s.draws

/-- Every byte of memory reads as it did. -/
abbrev KeepsMemory (s t : State) : Prop :=
  ∀ a : Word, t.byteAt a = s.byteAt a

/-- Everything outside the registers of the EE in focus and memory is as it was: its LAPIC, the other CPUs, the time, the
parameters, what the collaborators still do and what has left the block. -/
structure KeepsOutside (s t : State) : Prop where
  lapic     : t.cpu.lapic = s.cpu.lapic
  features  : t.cpu.features = s.cpu.features
  apicId0   : t.cpu.apicId0 = s.cpu.apicId0
  below     : t.below = s.below
  above     : t.above = s.above
  cfg       : t.cfg = s.cfg
  memFaults : t.memFaults = s.memFaults
  now       : t.now = s.now
  inputs    : t.inputs = s.inputs
  trace     : t.trace = s.trace

/-- The frame of a handler with descriptor `d` that stores nothing: RIP moved past the instruction (R14), and all but the
listed registers and the flags as they were. -/
structure Frame (s t : State) (d : Desc) (gprs vregs kregs : List Nat) : Prop where
  rip       : t.rip = s.rip + d.ilen.setWidth 64
  registers : KeepsRegisters s t gprs vregs kregs
  memory    : KeepsMemory s t
  outside   : KeepsOutside s t

/-- R153: one flag after an instruction: `some b` where the ISA gives it the value `b`, `none` where the ISA leaves it
undefined, which under the default policy leaves it unchanged. -/
def flagAfter (s t : State) (i : Nat) (o : Option Bool) : Prop :=
  match o with
  | some b => t.rflags.getLsbD i = b
  | none   => s.cfg.undefFlagPolicy = .unchanged → t.rflags.getLsbD i = s.rflags.getLsbD i

/-- RFLAGS after an instruction that writes flags (R15, R17, R153). -/
structure FlagsAfter (s t : State) (cf pf af zf sf of_ : Option Bool) : Prop where
  cf    : flagAfter s t 0 cf
  pf    : flagAfter s t 2 pf
  af    : flagAfter s t 4 af
  zf    : flagAfter s t 6 zf
  sf    : flagAfter s t 7 sf
  of_   : flagAfter s t 11 of_
  other : ∀ i < 64, i ∉ [0, 2, 4, 6, 7, 11] → t.rflags.getLsbD i = s.rflags.getLsbD i

/-- R150 with the carry a BMI or TBM rule gives: RFLAGS after a logical result. -/
abbrev LogicFlagsAfter {w : Nat} (s t : State) (res : BitVec w) (cf : Bool) : Prop :=
  FlagsAfter s t (some cf) (some (parity8 res)) (some false) (some (res == 0#w)) (some res.msb) (some false)

/-! What a family of handlers does: `make` is the instruction, `v` or `b` the operand that may be in memory (R161, R162), read
as the first thing the handler does and leaving `s₁`. -/

/-- A handler that writes `res` to general register `dst` at width `w` with the flags of a logical result. `field` is the
operand that may be in memory. -/
def GprLogic (w : Nat) (make : Desc → Instr) (field : Desc → BitVec 5) (res : Desc → State → BitVec w → BitVec w)
    (cf : Desc → State → BitVec w → Bool) : Prop :=
  ∀ (d : Desc) (s s₁ : State) (v : BitVec w), Ready s (make d) → s.srcG w d (field d) = .ok v s₁ →
    ∃ t, exec (make d) s = .next t ∧ t.gpr d.dst.toNat = mergeGpr w (s.gpr d.dst.toNat) (res d s v) ∧
      LogicFlagsAfter s t (res d s v) (cf d s v) ∧ Frame s₁ t d [d.dst.toNat] [] []

/-- A handler that writes `res` to general register `dst` at width `w` and no flag. -/
def GprQuiet (w : Nat) (make : Desc → Instr) (field : Desc → BitVec 5) (res : Desc → State → BitVec w → BitVec w) :
    Prop :=
  ∀ (d : Desc) (s s₁ : State) (v : BitVec w), Ready s (make d) → s.srcG w d (field d) = .ok v s₁ →
    ∃ t, exec (make d) s = .next t ∧ t.gpr d.dst.toNat = mergeGpr w (s.gpr d.dst.toNat) (res d s v) ∧
      KeepsFlags s₁ t ∧ Frame s₁ t d [d.dst.toNat] [] []

/-- R170: vector register `r` holds elements `res` in bits 127:0 and its old bits 511:128. -/
def PreservingWrite (s t : State) (r : Nat) (w : Nat) (res : Nat → BitVec w) : Prop :=
  (∀ i < 128 / w, lane w (t.vreg r) i = res i) ∧
    ∀ j < 512, 128 ≤ j → (t.vreg r).getLsbD j = (s.vreg r).getLsbD j

/-- R171: vector register `r` holds elements `res` in its low `L` bits and 0 above. -/
def ZeroingWrite (t : State) (r : Nat) (L w : Nat) (res : Nat → BitVec w) : Prop :=
  (∀ i < L / w, lane w (t.vreg r) i = res i) ∧ ∀ j < 512, L ≤ j → (t.vreg r).getLsbD j = false

/-- R172: whether element `i` is selected by the write mask. -/
def selects (s : State) (d : Desc) (i : Nat) : Bool :=
  decide (d.opmask = 0#3) || (s.kreg d.opmask.toNat).getLsbD i

/-- R173: the destination of a masked write of elements `res`: a selected element holds its result, another element its old
value (merge) or 0 (zero); the bits above the vector length are kept by a merge under `MERGE_UPPER = preserve`, else 0. -/
def MaskedResult (s t : State) (d : Desc) (w : Nat) (res : Nat → BitVec w) : Prop :=
  (∀ i < d.vlBits / w, lane w (t.vreg d.dst.toNat) i =
    if selects s d i then res i else if d.zmask then 0#w else lane w (s.vreg d.dst.toNat) i) ∧
  ∀ j < 512, d.vlBits ≤ j → (t.vreg d.dst.toNat).getLsbD j =
    (decide (d.opmask ≠ 0#3) && !d.zmask && decide (s.cfg.mergeUpper = .preserve) && (s.vreg d.dst.toNat).getLsbD j)

/-- The elements of a vector operation: of the parameters `d`, the state before, the second source, element by element. -/
abbrev Elements (w : Nat) := Desc → State → Packed → Nat → BitVec w

/-- The same function of each pair of elements, the first from the vector register in field `a`. -/
def pairwise {w : Nat} (a : Desc → BitVec 5) (f : BitVec w → BitVec w → BitVec w) : Elements w :=
  fun d s b i => f (lane w (s.vreg (a d).toNat) i) (lane w b i)

/-- An element of a comparison result (R159). -/
def onesIf (w : Nat) (c : Prop) [Decidable c] : BitVec w :=
  if c then BitVec.allOnes w else 0#w

/-- A class S handler with a second source (R245). -/
def SseResult {w : Nat} (make : Desc → Instr) (res : Elements w) : Prop :=
  ∀ (d : Desc) (s s₁ : State) (b : Packed), Ready s (make d) → s.srcV 128 d d.src2 = .ok b s₁ →
    ∃ t, exec (make d) s = .next t ∧ PreservingWrite s t d.dst.toNat w (res d s b) ∧
      KeepsFlags s₁ t ∧ Frame s₁ t d [] [d.dst.toNat] []

/-- A class V or AVX-512 handler with a masked destination (R246). -/
def VecResult {w : Nat} (make : Desc → Instr) (res : Elements w) : Prop :=
  ∀ (d : Desc) (s s₁ : State) (b : Packed), Ready s (make d) → s.srcV d.vlBits d d.src2 = .ok b s₁ →
    ∃ t, exec (make d) s = .next t ∧ MaskedResult s t d w (res d s b) ∧
      KeepsFlags s₁ t ∧ Frame s₁ t d [] [d.dst.toNat] []

/-- A handler that writes a whole vector register, zero above the active length (R171). -/
def ZeroingResult {w : Nat} (make : Desc → Instr) (res : Elements w) : Prop :=
  ∀ (d : Desc) (s s₁ : State) (b : Packed), Ready s (make d) → s.srcV d.vlBits d d.src2 = .ok b s₁ →
    ∃ t, exec (make d) s = .next t ∧ ZeroingWrite t d.dst.toNat d.vlBits w (res d s b) ∧
      KeepsFlags s₁ t ∧ Frame s₁ t d [] [d.dst.toNat] []

/-- R82: the `n` bytes at `a` are those of `v`, and every other byte of memory is as it was. -/
def StoredBytes (s t : State) (a : Word) (n : Nat) (v : Packed) : Prop :=
  (∀ i < n, t.byteAt (a + BitVec.ofNat 64 i) = lane 8 v i) ∧
    ∀ b : Word, (∀ i < n, b ≠ a + BitVec.ofNat 64 i) → t.byteAt b = s.byteAt b

end Sys2Proof.Machine
end

