-- ==== Sys2Proof/Certificates/Slice0/Obligations.lean ====
section
/-! DEFINITION. The statements for the provers, each after the rule of spec/ it formalises. Their terms (`Ready`, `Frame`,
`GprLogic`, `MaskedResult`, …) stand in Sys2Proof/Safety.lean. -/

open Sys2Proof Sys2Proof.Machine

/-! The step, and what every instruction has in common. -/

/-- R111, R118, R180: a step that meets a descriptor word runs the instruction it decodes to on the CPU it is presented to;
the step itself adds the removal of the word from the schedule and the move of the focus, which changes no CPU. -/
def Obligations.StepRunsTheDecodedInstruction : Prop :=
  ∀ (s u : State) (c : Nat) (w : DescWord) (rest : List Input) (i : Instr),
    s.inputs = .descriptor c w :: rest → decode w = .ok i → State.focusOn { s with inputs := rest } c = some u →
      step s = exec i u ∧ u.cpus = s.cpus ∧ u.focus = c ∧ u.mem = s.mem ∧ u.inputs = rest ∧ u.trace = s.trace

/-- R119: ILLEGAL and every unassigned id raise `InvalidOpcode` and change nothing else. -/
def Obligations.IllegalAndUnassignedIdsRaiseInvalidOpcode : Prop :=
  (∀ (d : Desc) (s : State),
    ∃ t, exec (.illegal d) s = .next t ∧ t = { s with trace := s.trace ++ [.fault s.focus .invalidOpcode] }) ∧
  ∀ (s u : State) (c : Nat) (w : DescWord) (rest : List Input) (e : DecodeError),
    s.inputs = .descriptor c w :: rest → decode w = .error e → State.focusOn { s with inputs := rest } c = some u →
      step s = .next { u with trace := u.trace ++ [.fault c .invalidOpcode] }

/-- R120, R180: a handler is refused exactly when its descriptor is malformed (that the refusal names the clause, the first in the
order of the model's checks, is the model's choice, log 25); and, by handler id, what it is to be well-formed: `rsvd` 0, `ilen`
1 to 15, and legal `vl` (R113), masking fields (R114), immediate (R115), `memform` (R116) and register fields (R112). ILLEGAL
has no such check (R119). -/
def Obligations.RefusedExactlyWhenMalformed : Prop :=
  (∀ (i : Instr) (s : State) (r : Refusal),
    exec i s = .refused r ↔ ∃ clause, i.malformed? = some clause ∧ r = .malformedDescriptor clause) ∧
  ∀ i : Instr,
    let id := i.handlerId.toNat
    let d := i.desc
    let within (lo hi : Nat) : Bool := decide (lo ≤ id) && decide (id ≤ hi)
    let store : Bool := id == 0x0AB || within 0x140 0x143
    i.WellFormed ↔ id = 0 ∨
      d.rsvd = 0#7 ∧ d.ilen ≠ 0#4 ∧
      d.vl.toNat ≤ (if within 0x100 0x195 then 2 else if id = 0x209 then 1 else 0) ∧
      (within 0x140 0x143 || within 0x180 0x187 || within 0x188 0x18B && d.memform → d.zmask = false) ∧
      (!within 0x100 0x195 || within 0x110 0x117 → d.opmask = 0#3 ∧ d.zmask = false) ∧
      (if within 0x010 0x027 && id % 2 == 1 || within 0x052 0x053 || within 0x0A0 0x0A8 || within 0x128 0x130 || id == 0x13A ||
          within 0x180 0x187 || within 0x194 0x195 || within 0x200 0x207 then d.imm.toNat < 256
        else if within 0x060 0x061 then True else d.imm = 0#32) ∧
      (store → d.memform = true) ∧ (within 0x0A0 0x0A7 || within 0x196 0x19D → d.memform = false) ∧
      d.dst.toNat < (if store then 1 else if id ≤ 0x073 || within 0x19A 0x19D then 16
        else if within 0x180 0x187 || within 0x196 0x199 then 8 else 32) ∧
      d.src1.toNat < (if within 0x010 0x027 && id % 2 == 1 || within 0x080 0x0AB || within 0x128 0x130 || id == 0x13A ||
          within 0x13C 0x143 || within 0x188 0x18F then 1
        else if id ≤ 0x073 || within 0x196 0x199 then 16 else if within 0x19A 0x19D then 8 else 32) ∧
      d.src2.toNat < (if within 0x040 0x043 || within 0x04A 0x051 || within 0x054 0x059 then 16
        else if id ≤ 0x073 || within 0x0A0 0x0A7 || within 0x196 0x19D then 1 else 32) ∧
      d.src3.toNat < (if 0x208 ≤ id then 32 else 1) ∧
      (d.memform = true → store = false →
        (if within 0x010 0x027 || within 0x188 0x18B then d.dst
          else if id ≤ 0x073 && !(within 0x040 0x041 || within 0x04C 0x051) then d.src1 else d.src2) = 0#5)

/-- R121, R118: which features a handler needs, by its id, and what it does where one is absent. -/
def Obligations.AbsentFeatureRaisesInvalidOpcode : Prop :=
  (∀ (i : Instr) (s : State), i.WellFormed → i.enabled s.cpu.features = false →
    exec i s = .next { s with trace := s.trace ++ [.fault s.focus .invalidOpcode] }) ∧
  ∀ (i : Instr) (fs : Features), i.enabled fs =
    let id := i.handlerId.toNat
    if id = 0 then true
    else if id ≤ 0x02D then fs.bitops
    else if id ≤ 0x030 then fs.popcnt
    else if id ≤ 0x033 then fs.bmi1
    else if id ≤ 0x036 then fs.lzcnt
    else if id ≤ 0x049 then fs.bmi1
    else if id ≤ 0x059 then fs.bmi2
    else if id ≤ 0x073 then fs.tbm
    else if id ≤ 0x0AB then fs.sse
    else if id ≤ 0x143 then fs.avx && (fs.avx512 || !(decide (i.desc.vl = 2#2) || decide (i.desc.opmask ≠ 0#3)))
    else if id ≤ 0x19D then fs.avx512
    else fs.xop

/-- R180, R351, R358: a step of the EE that raises a fault signal changes no register, no flag and not RIP; the signal is all that
it leaves, but by the handlers that store element by element (VMOVDQU stores 0x140 to 0x143, VPCOMPRESS 0x188 to 0x18B; R89). -/
def Obligations.FaultSignalsArePrecise : Prop :=
  ∀ (i : Instr) (s t : State) (c : Nat) (sig : FaultSignal), exec i s = .next t →
    Output.fault c sig ∈ t.trace.drop s.trace.length →
      c = s.focus ∧ t.cpu.ee = s.cpu.ee ∧
        (i.handlerId.toNat ∉ [0x140, 0x141, 0x142, 0x143, 0x188, 0x189, 0x18A, 0x18B] →
          t = { s with trace := s.trace ++ [.fault c sig] })

/-- R17: no instruction modifies a bit of RFLAGS that is not one of the six flags, and bit 1 reads 1 after reset. -/
def Obligations.OtherFlagBitsAreHeld : Prop :=
  (∀ (i : Instr) (s t : State), exec i s = .next t →
    ∀ j < 64, j ∉ [0, 2, 4, 6, 7, 11] → t.rflags.getLsbD j = s.rflags.getLsbD j) ∧
  State.reset.rflags.getLsbD 1 = true

/-- R112, R117, R297, R320: which register file each class of handlers writes. The general-register classes keep the vector and
opmask registers; the vector classes keep the general registers and RFLAGS, but for KMOV to a general register, and only
the compares to a mask and KMOV to a mask write an opmask register. -/
def Obligations.RegisterFilesWrittenPerClass : Prop :=
  ∀ (i : Instr) (s t : State), exec i s = .next t →
    (i.handlerId.toNat < 0x080 → KeepsRegisters s t (List.range 16) [] []) ∧
    (0x080 ≤ i.handlerId.toNat → t.rflags = s.rflags ∧
      (i.handlerId.toNat ∉ [0x19A, 0x19B, 0x19C, 0x19D] → KeepsRegisters s t [] (List.range 32) (List.range 8)) ∧
      (i.handlerId.toNat ∉ [0x180, 0x181, 0x182, 0x183, 0x184, 0x185, 0x186, 0x187, 0x196, 0x197, 0x198, 0x199] →
        KeepsRegisters s t (List.range 16) (List.range 32) []))

/-- R11, R12: a read of a general register at width 8, 16, 32 or 64 gives its low bits; a 16-bit write keeps bits 63:16, a
32-bit write clears bits 63:32, a 64-bit write replaces the register; no other register changes. -/
def Obligations.SubregisterReadsAndWrites : Prop :=
  ∀ (s : State) (r q : BitVec 5), r.toNat < 16 → q.toNat < 16 → q ≠ r →
    (∀ w ∈ [8, 16, 32, 64], ∀ j < w, (s.x w r).getLsbD j = (s.gpr r.toNat).getLsbD j) ∧
    (∀ v : BitVec 64, (s.setX r v).gpr r.toNat = v ∧ (s.setX r v).gpr q.toNat = s.gpr q.toNat) ∧
    (∀ v : BitVec 32, (s.setX r v).gpr r.toNat = 0#32 ++ v ∧ (s.setX r v).gpr q.toNat = s.gpr q.toNat) ∧
    (∀ v : BitVec 16, (s.setX r v).gpr r.toNat = (s.gpr r.toNat).extractLsb' 16 48 ++ v ∧
      (s.setX r v).gpr q.toNat = s.gpr q.toNat)

/-- R161, R162, R82, R83: an operand that is not in memory is the low bits of its register and reading it changes nothing; one in
ordinary memory is the little-endian bytes at `addr` and reading it changes nothing; and whatever a read touches, it leaves
every register of the EE, memory, the other CPUs and the parameters as they were. -/
def Obligations.SourceOperands : Prop :=
  ∀ (s : State) (d : Desc) (r : BitVec 5),
    (d.memform = false →
      (∀ w, s.srcG w d r = .ok ((s.gpr r.toNat).setWidth w) s) ∧
      ∀ L, ∃ b, s.srcV L d r = .ok b s ∧ ∀ j < 512, b.getLsbD j = (decide (j < L) && (s.vreg r.toNat).getLsbD j)) ∧
    (d.memform = true → ∀ n ∈ [2, 4, 8, 16, 32, 64], s.target d.addr n = .memory →
      memFaultOf s.memFaults false d.addr n = none →
        (∃ v, s.srcG (8 * n) d r = .ok v s ∧
          ∀ i < n, ∀ j < 8, i < 64 → v.getLsbD (8 * i + j) = (s.byteAt (d.addr + BitVec.ofNat 64 i)).getLsbD j) ∧
        ∃ b, s.srcV (8 * n) d r = .ok b s ∧ (∀ j, 8 * n ≤ j → b.getLsbD j = false) ∧
          ∀ i < n, lane 8 b i = s.byteAt (d.addr + BitVec.ofNat 64 i)) ∧
    let keeps (t : State) : Prop :=
      t.cpu.ee = s.cpu.ee ∧ t.mem = s.mem ∧ t.below = s.below ∧ t.above = s.above ∧ t.cfg = s.cfg ∧
        t.memFaults = s.memFaults ∧ t.now = s.now ∧ t.inputs = s.inputs ∧ t.draws = s.draws
    (∀ (w : Nat) (v : BitVec w) (t : State), s.srcG w d r = .ok v t → keeps t) ∧
    (∀ (L : Nat) (b : Packed) (t : State), s.srcV L d r = .ok b t → keeps t) ∧
    ∀ (w : Nat) (as : List Word) (es : List (BitVec w)) (t : State), s.readElements w as = .ok es t → keeps t

/-! Bit test, bit scan, bit count (41_bitops.md). -/

/-- R200: the location of the tested bit. In a register the offset is taken modulo the width; with an immediate offset the word
is at `addr`; with a register offset and a memory base the offset is signed and addresses a bit string, so that byte
`ea + bit / 8` is byte `floor(off / 8)` from `addr`, and the word is aligned to the operand, `ea - addr` a multiple of its size. -/
def Obligations.BitLocation : Prop :=
  ∀ (s : State) (d : Desc), ∀ w ∈ [16, 32, 64],
    (s.bitIndex w .imm d = (d.imm.setWidth 8).toNat % w ∧ s.bitAddress w .imm d = d.addr) ∧
    s.bitIndex w .reg d = ((s.gpr d.src1.toNat).setWidth w).toNat % w ∧
    (∀ o, d.memform = false → s.bitBase w o d = .ok ((s.gpr d.dst.toNat).setWidth w) s) ∧
    (∀ o v t, d.memform = true → s.memRead (s.bitAddress w o d) (w / 8) = .ok v t →
      s.bitBase w o d = .ok (v.setWidth w) t) ∧
    ∃ k : Int, s.bitAddress w .reg d = d.addr + BitVec.ofInt 64 (k * (w / 8 : Nat)) ∧
      k * w + s.bitIndex w .reg d = ((s.gpr d.src1.toNat).setWidth w).toInt

/-- R190, R151: BT, every form: CF is the tested bit, ZF and everything else that is defined is unchanged. -/
def Obligations.BitTestReadsTheBit : Prop :=
  let reads (w : Nat) (o : BitOffset) (make : Desc → Instr) : Prop :=
    ∀ (d : Desc) (s s₁ : State) (base : BitVec w), Ready s (make d) → s.bitBase w o d = .ok base s₁ →
      ∃ t, exec (make d) s = .next t ∧ Frame s₁ t d [] [] [] ∧
        FlagsAfter s t (some (base.getLsbD (s.bitIndex w o d))) none none (some (s.rflags.getLsbD 6)) none none
  reads 16 .reg .bt16G ∧ reads 32 .reg .bt32G ∧ reads 64 .reg .bt64G ∧
    reads 16 .imm .bt16I ∧ reads 32 .imm .bt32I ∧ reads 64 .imm .bt64I

/-- R191 to R193: BTS, BTR, BTC: CF is the bit before, the bit of the word is set, cleared or complemented. In the register form
the destination register is written at the width; in the memory form the word is stored back where it was read (`ea`), every
byte outside it keeps its value, and in ordinary memory the stored bytes are the new word. -/
def Obligations.BitTestModifiesTheBit : Prop :=
  let modifies (w : Nat) (o : BitOffset) (make : Desc → Instr) (new : Bool → Bool) : Prop :=
    ∀ (d : Desc) (s s₁ : State) (base v : BitVec w), Ready s (make d) → s.bitBase w o d = .ok base s₁ →
      (∀ j < w, v.getLsbD j = if j = s.bitIndex w o d then new (base.getLsbD j) else base.getLsbD j) →
      (d.memform = false → ∃ t, exec (make d) s = .next t ∧ t.gpr d.dst.toNat = mergeGpr w (s.gpr d.dst.toNat) v ∧
        FlagsAfter s t (some (base.getLsbD (s.bitIndex w o d))) none none (some (s.rflags.getLsbD 6)) none none ∧
        Frame s₁ t d [d.dst.toNat] [] []) ∧
      (d.memform = true → ∀ s₂, s₁.memWrite (s.bitAddress w o d) (w / 8) (v.setWidth 512) = .ok () s₂ →
        ∃ t, exec (make d) s = .next t ∧ Frame s₂ t d [] [] [] ∧ KeepsRegisters s t [] [] [] ∧
          FlagsAfter s t (some (base.getLsbD (s.bitIndex w o d))) none none (some (s.rflags.getLsbD 6)) none none ∧
          (∀ b : Word, (∀ i < w / 8, b ≠ s.bitAddress w o d + BitVec.ofNat 64 i) → t.byteAt b = s.byteAt b) ∧
          (s.target (s.bitAddress w o d) (w / 8) = .memory →
            StoredBytes s t (s.bitAddress w o d) (w / 8) (v.setWidth 512)))
  (modifies 16 .reg .bts16G (fun _ => true) ∧ modifies 32 .reg .bts32G (fun _ => true) ∧
    modifies 64 .reg .bts64G (fun _ => true) ∧ modifies 16 .imm .bts16I (fun _ => true) ∧
    modifies 32 .imm .bts32I (fun _ => true) ∧ modifies 64 .imm .bts64I (fun _ => true)) ∧
  (modifies 16 .reg .btr16G (fun _ => false) ∧ modifies 32 .reg .btr32G (fun _ => false) ∧
    modifies 64 .reg .btr64G (fun _ => false) ∧ modifies 16 .imm .btr16I (fun _ => false) ∧
    modifies 32 .imm .btr32I (fun _ => false) ∧ modifies 64 .imm .btr64I (fun _ => false)) ∧
  (modifies 16 .reg .btc16G not ∧ modifies 32 .reg .btc32G not ∧ modifies 64 .reg .btc64G not ∧
    modifies 16 .imm .btc16I not ∧ modifies 32 .imm .btc32I not ∧ modifies 64 .imm .btc64I not)

/-- R194, R195, R152: BSF and BSR. With a zero source ZF is 1 and no register is written; otherwise the destination receives the
index of the lowest (BSF) or highest (BSR) 1 bit and ZF is 0. The other flags are undefined. -/
def Obligations.BitScansFindTheBit : Prop :=
  let scans (w : Nat) (make : Desc → Instr) (found : BitVec w → Nat → Prop) : Prop :=
    ∀ (d : Desc) (s s₁ : State) (v : BitVec w), Ready s (make d) → s.srcG w d d.src1 = .ok v s₁ →
      (v = 0#w → ∃ t, exec (make d) s = .next t ∧ FlagsAfter s t none none none (some true) none none ∧
        Frame s₁ t d [] [] []) ∧
      (v ≠ 0#w → ∃ t n, exec (make d) s = .next t ∧ n < w ∧ v.getLsbD n = true ∧ found v n ∧
        t.gpr d.dst.toNat = mergeGpr w (s.gpr d.dst.toNat) (BitVec.ofNat w n) ∧
        FlagsAfter s t none none none (some false) none none ∧ Frame s₁ t d [d.dst.toNat] [] [])
  (scans 16 .bsf16 (fun v n => ∀ m < n, v.getLsbD m = false) ∧ scans 32 .bsf32 (fun v n => ∀ m < n, v.getLsbD m = false) ∧
    scans 64 .bsf64 (fun v n => ∀ m < n, v.getLsbD m = false)) ∧
  scans 16 .bsr16 (fun v n => ∀ m, n < m → v.getLsbD m = false) ∧
    scans 32 .bsr32 (fun v n => ∀ m, n < m → v.getLsbD m = false) ∧
    scans 64 .bsr64 (fun v n => ∀ m, n < m → v.getLsbD m = false)

/-- R196, R152: POPCNT: the number of 1 bits of the source; ZF says that the source is 0 and the five other flags are cleared. -/
def Obligations.PopulationCount : Prop :=
  let counts (w : Nat) (make : Desc → Instr) : Prop :=
    ∀ (d : Desc) (s s₁ : State) (v : BitVec w), Ready s (make d) → s.srcG w d d.src1 = .ok v s₁ →
      ∃ t, exec (make d) s = .next t ∧
        t.gpr d.dst.toNat = mergeGpr w (s.gpr d.dst.toNat)
          (BitVec.ofNat w ((Finset.range w).filter fun j => v.getLsbD j = true).card) ∧
        FlagsAfter s t (some false) (some false) (some false) (some (v == 0#w)) (some false) (some false) ∧
        Frame s₁ t d [d.dst.toNat] [] []
  counts 16 .popcnt16 ∧ counts 32 .popcnt32 ∧ counts 64 .popcnt64

/-- R197, R198, R152: TZCNT and LZCNT: the number of zero bits below the lowest, above the highest, 1 bit, the width for a zero
source; CF says that the source is 0, ZF that the count is 0. -/
def Obligations.TrailingAndLeadingZeroCounts : Prop :=
  let counts (w : Nat) (make : Desc → Instr) (bit : BitVec w → Nat → Bool) : Prop :=
    ∀ (d : Desc) (s s₁ : State) (v : BitVec w), Ready s (make d) → s.srcG w d d.src1 = .ok v s₁ →
      ∃ t n, exec (make d) s = .next t ∧ n ≤ w ∧ (∀ m < n, bit v m = false) ∧ (n < w → bit v n = true) ∧
        t.gpr d.dst.toNat = mergeGpr w (s.gpr d.dst.toNat) (BitVec.ofNat w n) ∧
        FlagsAfter s t (some (v == 0#w)) none none (some (n == 0)) none none ∧ Frame s₁ t d [d.dst.toNat] [] []
  (counts 16 .tzcnt16 BitVec.getLsbD ∧ counts 32 .tzcnt32 BitVec.getLsbD ∧ counts 64 .tzcnt64 BitVec.getLsbD) ∧
    counts 16 .lzcnt16 BitVec.getMsbD ∧ counts 32 .lzcnt32 BitVec.getMsbD ∧ counts 64 .lzcnt64 BitVec.getMsbD

/-! BMI and TBM (42_bmi.md, 43_tbm.md). -/

/-- R210, R211, R215, R230, R143: ANDN, the two forms of BEXTR, BZHI. -/
def Obligations.AndNotAndBitFields : Prop :=
  (GprLogic 32 .andn32 Desc.src2 (fun d s v => ~~~ (s.gpr d.src1.toNat).setWidth 32 &&& v) (fun _ _ _ => false) ∧
    GprLogic 64 .andn64 Desc.src2 (fun d s v => ~~~ s.gpr d.src1.toNat &&& v) (fun _ _ _ => false)) ∧
  (GprLogic 32 .bextr32 Desc.src1
      (fun d s v => v >>> ((s.gpr d.src2.toNat).toNat % 256) &&&
        BitVec.ofNat 32 (2 ^ ((s.gpr d.src2.toNat).toNat / 256 % 256) - 1)) (fun _ _ _ => false) ∧
    GprLogic 64 .bextr64 Desc.src1
      (fun d s v => v >>> ((s.gpr d.src2.toNat).toNat % 256) &&&
        BitVec.ofNat 64 (2 ^ ((s.gpr d.src2.toNat).toNat / 256 % 256) - 1)) (fun _ _ _ => false)) ∧
  (GprLogic 32 .bextri32 Desc.src1
      (fun d _ v => v >>> (d.imm.toNat % 256) &&& BitVec.ofNat 32 (2 ^ (d.imm.toNat / 256 % 256) - 1))
      (fun _ _ _ => false) ∧
    GprLogic 64 .bextri64 Desc.src1
      (fun d _ v => v >>> (d.imm.toNat % 256) &&& BitVec.ofNat 64 (2 ^ (d.imm.toNat / 256 % 256) - 1))
      (fun _ _ _ => false)) ∧
  GprLogic 32 .bzhi32 Desc.src1
      (fun d s v => v &&& BitVec.ofNat 32 (2 ^ ((s.gpr d.src2.toNat).toNat % 256) - 1))
      (fun d s _ => decide (32 ≤ (s.gpr d.src2.toNat).toNat % 256)) ∧
    GprLogic 64 .bzhi64 Desc.src1
      (fun d s v => v &&& BitVec.ofNat 64 (2 ^ ((s.gpr d.src2.toNat).toNat % 256) - 1))
      (fun d s _ => decide (64 ≤ (s.gpr d.src2.toNat).toNat % 256))

/-- R212 to R214, R231 to R240: the lowest-bit operations of BMI1 and TBM, each with its result and its carry. -/
def Obligations.LowestBitOperations : Prop :=
  let both (make32 make64 : Desc → Instr) (f : {w : Nat} → BitVec w → BitVec w) (cf : {w : Nat} → BitVec w → Bool) : Prop :=
    GprLogic 32 make32 Desc.src1 (fun _ _ v => f v) (fun _ _ v => cf v) ∧
      GprLogic 64 make64 Desc.src1 (fun _ _ v => f v) (fun _ _ v => cf v)
  (both .blsi32 .blsi64 (fun v => (0 - v) &&& v) (fun v => v != 0) ∧
    both .blsmsk32 .blsmsk64 (fun v => (v - 1) ^^^ v) (fun v => v == 0) ∧
    both .blsr32 .blsr64 (fun v => (v - 1) &&& v) (fun v => v == 0)) ∧
  (both .blcfill32 .blcfill64 (fun v => v &&& (v + 1)) (fun {w} v => v == BitVec.allOnes w) ∧
    both .blci32 .blci64 (fun v => v ||| ~~~ (v + 1)) (fun {w} v => v == BitVec.allOnes w) ∧
    both .blcic32 .blcic64 (fun v => ~~~ v &&& (v + 1)) (fun {w} v => v == BitVec.allOnes w) ∧
    both .blcmsk32 .blcmsk64 (fun v => v ^^^ (v + 1)) (fun {w} v => v == BitVec.allOnes w) ∧
    both .blcs32 .blcs64 (fun v => v ||| (v + 1)) (fun {w} v => v == BitVec.allOnes w) ∧
    both .t1mskc32 .t1mskc64 (fun v => ~~~ v ||| (v + 1)) (fun {w} v => v == BitVec.allOnes w)) ∧
  both .blsfill32 .blsfill64 (fun v => v ||| (v - 1)) (fun v => v == 0) ∧
    both .blsic32 .blsic64 (fun v => ~~~ v ||| (v - 1)) (fun v => v == 0) ∧
    both .tzmsk32 .tzmsk64 (fun v => ~~~ v &&& (v - 1)) (fun v => v == 0)

/-- R216: MULX: the exact product of RDX (EDX) and the operand, low half to `src1`, then high half to `dst`; no flag. -/
def Obligations.MultiplyWithoutFlags : Prop :=
  let multiplies (w : Nat) (make : Desc → Instr) : Prop :=
    ∀ (d : Desc) (s s₁ : State) (v : BitVec w), Ready s (make d) → s.srcG w d d.src2 = .ok v s₁ →
      ∃ t, exec (make d) s = .next t ∧
        (let p := ((s.gpr 2).setWidth w).toNat * v.toNat
         t.gpr d.dst.toNat = BitVec.ofNat 64 (p / 2 ^ w) ∧
          (d.src1 ≠ d.dst → t.gpr d.src1.toNat = BitVec.ofNat 64 (p % 2 ^ w))) ∧
        KeepsFlags s₁ t ∧ Frame s₁ t d [d.dst.toNat, d.src1.toNat] [] []
  multiplies 32 .mulx32 ∧ multiplies 64 .mulx64

/-- R217 to R222: PDEP, PEXT, RORX, SARX, SHLX, SHRX write no flag; the counts are taken modulo the width. -/
def Obligations.DepositRotateShiftWithoutFlags : Prop :=
  (GprQuiet 32 .pdep32 Desc.src2 (fun d s m => pdep ((s.gpr d.src1.toNat).setWidth 32) m) ∧
    GprQuiet 64 .pdep64 Desc.src2 (fun d s m => pdep (s.gpr d.src1.toNat) m) ∧
    GprQuiet 32 .pext32 Desc.src2 (fun d s m => pext ((s.gpr d.src1.toNat).setWidth 32) m) ∧
    GprQuiet 64 .pext64 Desc.src2 (fun d s m => pext (s.gpr d.src1.toNat) m)) ∧
  (GprQuiet 32 .rorx32 Desc.src1 (fun d _ v => v.rotateRight (d.imm.toNat % 256)) ∧
    GprQuiet 64 .rorx64 Desc.src1 (fun d _ v => v.rotateRight (d.imm.toNat % 256))) ∧
  (GprQuiet 32 .sarx32 Desc.src1 (fun d s v => v.sshiftRight ((s.gpr d.src2.toNat).toNat % 32)) ∧
    GprQuiet 64 .sarx64 Desc.src1 (fun d s v => v.sshiftRight ((s.gpr d.src2.toNat).toNat % 64))) ∧
  (GprQuiet 32 .shlx32 Desc.src1 (fun d s v => v <<< ((s.gpr d.src2.toNat).toNat % 32)) ∧
    GprQuiet 64 .shlx64 Desc.src1 (fun d s v => v <<< ((s.gpr d.src2.toNat).toNat % 64))) ∧
  GprQuiet 32 .shrx32 Desc.src1 (fun d s v => v >>> ((s.gpr d.src2.toNat).toNat % 32)) ∧
    GprQuiet 64 .shrx64 Desc.src1 (fun d s v => v >>> ((s.gpr d.src2.toNat).toNat % 64))

/-- R147, R218: bit by bit, what a deposit and an extraction do, and that an extraction undoes a deposit. -/
def Obligations.ExtractUndoesDeposit : Prop :=
  ∀ (w : Nat) (x m : BitVec w),
    (∀ i < w, (pdep x m).getLsbD i = (m.getLsbD i && x.getLsbD ((List.range i).countP m.getLsbD))) ∧
    (∀ i < w, m.getLsbD i = true → (pext x m).getLsbD ((List.range i).countP m.getLsbD) = x.getLsbD i) ∧
    (∀ j, popcnt m ≤ j → (pext x m).getLsbD j = false) ∧
    pext (pdep x m) m = x &&& BitVec.ofNat w (2 ^ popcnt m - 1)

/-! Packed integer, class S (44_simd_int.md R245): bits 511:128 of the destination are kept. -/

/-- R250 to R261: the element-wise operations on two operands, the destination the first. -/
def Obligations.SseElementwise : Prop :=
  let both (w : Nat) (f : BitVec w → BitVec w → BitVec w) : Elements w := pairwise Desc.dst f
  (SseResult .paddb (both 8 (· + ·)) ∧ SseResult .paddw (both 16 (· + ·)) ∧
    SseResult .paddd (both 32 (· + ·)) ∧ SseResult .paddq (both 64 (· + ·)) ∧
    SseResult .psubb (both 8 (· - ·)) ∧ SseResult .psubw (both 16 (· - ·)) ∧
    SseResult .psubd (both 32 (· - ·)) ∧ SseResult .psubq (both 64 (· - ·))) ∧
  (SseResult .pand (both 64 (· &&& ·)) ∧ SseResult .pandn (both 64 fun a b => ~~~ a &&& b) ∧
    SseResult .por (both 64 (· ||| ·)) ∧ SseResult .pxor (both 64 (· ^^^ ·))) ∧
  (SseResult .pcmpeqb (both 8 fun a b => onesIf 8 (a = b)) ∧ SseResult .pcmpeqw (both 16 fun a b => onesIf 16 (a = b)) ∧
    SseResult .pcmpeqd (both 32 fun a b => onesIf 32 (a = b)) ∧ SseResult .pcmpeqq (both 64 fun a b => onesIf 64 (a = b)) ∧
    SseResult .pcmpgtb (both 8 fun a b => onesIf 8 (b.slt a)) ∧ SseResult .pcmpgtw (both 16 fun a b => onesIf 16 (b.slt a)) ∧
    SseResult .pcmpgtd (both 32 fun a b => onesIf 32 (b.slt a)) ∧
    SseResult .pcmpgtq (both 64 fun a b => onesIf 64 (b.slt a))) ∧
  (SseResult .pminsb (both 8 fun a b => if a.slt b then a else b) ∧
    SseResult .pminsw (both 16 fun a b => if a.slt b then a else b) ∧
    SseResult .pminsd (both 32 fun a b => if a.slt b then a else b) ∧
    SseResult .pmaxsb (both 8 fun a b => if a.slt b then b else a) ∧
    SseResult .pmaxsw (both 16 fun a b => if a.slt b then b else a) ∧
    SseResult .pmaxsd (both 32 fun a b => if a.slt b then b else a)) ∧
  SseResult .pminub (both 8 fun a b => if a.ult b then a else b) ∧
    SseResult .pminuw (both 16 fun a b => if a.ult b then a else b) ∧
    SseResult .pminud (both 32 fun a b => if a.ult b then a else b) ∧
    SseResult .pmaxub (both 8 fun a b => if a.ult b then b else a) ∧
    SseResult .pmaxuw (both 16 fun a b => if a.ult b then b else a) ∧
    SseResult .pmaxud (both 32 fun a b => if a.ult b then b else a)

/-- R262 to R264: the shifts by an immediate count, not reduced: at or above the element width a logical shift gives 0 and an
arithmetic one copies of the sign. -/
def Obligations.SseShifts : Prop :=
  let shifts {w : Nat} (make : Desc → Instr) (f : BitVec w → Nat → BitVec w) : Prop :=
    ∀ (d : Desc) (s : State), Ready s (make d) →
      ∃ t, exec (make d) s = .next t ∧
        PreservingWrite s t d.dst.toNat w (fun i => f (lane w (s.vreg d.dst.toNat) i) (d.imm.toNat % 256)) ∧
        KeepsFlags s t ∧ Frame s t d [] [d.dst.toNat] []
  (shifts (w := 16) .psllwI (· <<< ·) ∧ shifts (w := 32) .pslldI (· <<< ·) ∧ shifts (w := 64) .psllqI (· <<< ·)) ∧
  (shifts (w := 16) .psrlwI (· >>> ·) ∧ shifts (w := 32) .psrldI (· >>> ·) ∧ shifts (w := 64) .psrlqI (· >>> ·)) ∧
  shifts (w := 16) .psrawI BitVec.sshiftRight ∧ shifts (w := 32) .psradI BitVec.sshiftRight

/-- R268, R269, R279: PSHUFD, PSHUFB and the MOVDQU load. -/
def Obligations.SseShufflesAndLoad : Prop :=
  SseResult (w := 32) .pshufd (fun d _ b i => lane 32 b (d.imm.toNat % 256 / 4 ^ (i % 4) % 4)) ∧
  SseResult (w := 8) .pshufb (fun d s b i =>
    if (lane 8 b i).getLsbD 7 then 0#8 else lane 8 (s.vreg d.dst.toNat) ((lane 8 b i).toNat % 16)) ∧
  SseResult (w := 64) .movdquLd (fun _ _ b i => lane 64 b i)

/-- R279, R82: the MOVDQU store: the 16 bytes at `addr` are bits 127:0 of the source, and nothing else changes. -/
def Obligations.SseStore : Prop :=
  ∀ (d : Desc) (s : State), Ready s (.movdquSt d) → s.target d.addr 16 = .memory →
    memFaultOf s.memFaults true d.addr 16 = none →
      ∃ t, exec (.movdquSt d) s = .next t ∧ t.rip = s.rip + d.ilen.setWidth 64 ∧
        StoredBytes s t d.addr 16 (s.vreg d.src2.toNat) ∧ KeepsRegisters s t [] [] [] ∧ KeepsFlags s t ∧ KeepsOutside s t

/-! Packed integer, class V (44_simd_int.md R246), with masked writes (R172, R173). -/

/-- R250 to R255, R258 to R261: the element-wise operations on two operands under a write mask. -/
def Obligations.VectorElementwise : Prop :=
  let both (w : Nat) (f : BitVec w → BitVec w → BitVec w) : Elements w := pairwise Desc.src1 f
  (VecResult .vpaddb (both 8 (· + ·)) ∧ VecResult .vpaddw (both 16 (· + ·)) ∧
    VecResult .vpaddd (both 32 (· + ·)) ∧ VecResult .vpaddq (both 64 (· + ·)) ∧
    VecResult .vpsubb (both 8 (· - ·)) ∧ VecResult .vpsubw (both 16 (· - ·)) ∧
    VecResult .vpsubd (both 32 (· - ·)) ∧ VecResult .vpsubq (both 64 (· - ·))) ∧
  (VecResult .vpandd (both 32 (· &&& ·)) ∧ VecResult .vpandq (both 64 (· &&& ·)) ∧
    VecResult .vpandnd (both 32 fun a b => ~~~ a &&& b) ∧ VecResult .vpandnq (both 64 fun a b => ~~~ a &&& b) ∧
    VecResult .vpord (both 32 (· ||| ·)) ∧ VecResult .vporq (both 64 (· ||| ·)) ∧
    VecResult .vpxord (both 32 (· ^^^ ·)) ∧ VecResult .vpxorq (both 64 (· ^^^ ·))) ∧
  (VecResult .vpminsb (both 8 fun a b => if a.slt b then a else b) ∧
    VecResult .vpminsw (both 16 fun a b => if a.slt b then a else b) ∧
    VecResult .vpminsd (both 32 fun a b => if a.slt b then a else b) ∧
    VecResult .vpminsq (both 64 fun a b => if a.slt b then a else b) ∧
    VecResult .vpmaxsb (both 8 fun a b => if a.slt b then b else a) ∧
    VecResult .vpmaxsw (both 16 fun a b => if a.slt b then b else a) ∧
    VecResult .vpmaxsd (both 32 fun a b => if a.slt b then b else a) ∧
    VecResult .vpmaxsq (both 64 fun a b => if a.slt b then b else a)) ∧
  VecResult .vpminub (both 8 fun a b => if a.ult b then a else b) ∧
    VecResult .vpminuw (both 16 fun a b => if a.ult b then a else b) ∧
    VecResult .vpminud (both 32 fun a b => if a.ult b then a else b) ∧
    VecResult .vpminuq (both 64 fun a b => if a.ult b then a else b) ∧
    VecResult .vpmaxub (both 8 fun a b => if a.ult b then b else a) ∧
    VecResult .vpmaxuw (both 16 fun a b => if a.ult b then b else a) ∧
    VecResult .vpmaxud (both 32 fun a b => if a.ult b then b else a) ∧
    VecResult .vpmaxuq (both 64 fun a b => if a.ult b then b else a)

/-- R262 to R267: the shifts by an immediate and by the elements of the second source. -/
def Obligations.VectorShifts : Prop :=
  let byImm (w : Nat) (f : BitVec w → Nat → BitVec w) : Elements w := fun d _ b i => f (lane w b i) (d.imm.toNat % 256)
  let byElement (w : Nat) (f : BitVec w → Nat → BitVec w) : Elements w :=
    fun d s b i => f (lane w (s.vreg d.src1.toNat) i) (lane w b i).toNat
  (VecResult .vpsllwI (byImm 16 (· <<< ·)) ∧ VecResult .vpslldI (byImm 32 (· <<< ·)) ∧
    VecResult .vpsllqI (byImm 64 (· <<< ·)) ∧ VecResult .vpsrlwI (byImm 16 (· >>> ·)) ∧
    VecResult .vpsrldI (byImm 32 (· >>> ·)) ∧ VecResult .vpsrlqI (byImm 64 (· >>> ·)) ∧
    VecResult .vpsrawI (byImm 16 BitVec.sshiftRight) ∧ VecResult .vpsradI (byImm 32 BitVec.sshiftRight) ∧
    VecResult .vpsraqI (byImm 64 BitVec.sshiftRight)) ∧
  VecResult .vpsllvw (byElement 16 (· <<< ·)) ∧ VecResult .vpsllvd (byElement 32 (· <<< ·)) ∧
    VecResult .vpsllvq (byElement 64 (· <<< ·)) ∧ VecResult .vpsrlvw (byElement 16 (· >>> ·)) ∧
    VecResult .vpsrlvd (byElement 32 (· >>> ·)) ∧ VecResult .vpsrlvq (byElement 64 (· >>> ·)) ∧
    VecResult .vpsravw (byElement 16 BitVec.sshiftRight) ∧ VecResult .vpsravd (byElement 32 BitVec.sshiftRight) ∧
    VecResult .vpsravq (byElement 64 BitVec.sshiftRight)

/-- R268, R269: VPSHUFD and VPSHUFB stay within each group of 128 bits. -/
def Obligations.VectorShuffles : Prop :=
  VecResult (w := 32) .vpshufd (fun d _ b i => lane 32 b (i / 4 * 4 + d.imm.toNat % 256 / 4 ^ (i % 4) % 4)) ∧
  VecResult (w := 8) .vpshufb (fun d s b i =>
    if (lane 8 b i).getLsbD 7 then 0#8 else lane 8 (s.vreg d.src1.toNat) (i / 16 * 16 + (lane 8 b i).toNat % 16))

/-- R256, R257, R171: the VEX compares write the whole register, zero above the vector length. -/
def Obligations.VectorCompares : Prop :=
  let eq (w : Nat) : Elements w := pairwise Desc.src1 fun a b => onesIf w (a = b)
  let gt (w : Nat) : Elements w := pairwise Desc.src1 fun a b => onesIf w (b.slt a)
  (ZeroingResult .vpcmpeqb (eq 8) ∧ ZeroingResult .vpcmpeqw (eq 16) ∧ ZeroingResult .vpcmpeqd (eq 32) ∧
    ZeroingResult .vpcmpeqq (eq 64)) ∧
  ZeroingResult .vpcmpgtb (gt 8) ∧ ZeroingResult .vpcmpgtw (gt 16) ∧ ZeroingResult .vpcmpgtd (gt 32) ∧
    ZeroingResult .vpcmpgtq (gt 64)

/-- R279, R89: VMOVDQU loads. From a register, or from memory without a mask, one operand is read; from memory under a mask only
the selected elements are, in ascending order, one access each, and the element of rank `j` among them receives the value
of access `j`. -/
def Obligations.VectorLoads : Prop :=
  let loads (w : Nat) (make : Desc → Instr) : Prop :=
    (∀ (d : Desc) (s s₁ : State) (b : Packed), Ready s (make d) → d.memform = false ∨ d.opmask = 0#3 →
      s.srcV d.vlBits d d.src2 = .ok b s₁ →
        ∃ t, exec (make d) s = .next t ∧ MaskedResult s t d w (lane w b) ∧ KeepsFlags s₁ t ∧
          Frame s₁ t d [] [d.dst.toNat] []) ∧
    ∀ (d : Desc) (s s₁ : State) (es : List (BitVec w)), Ready s (make d) → d.memform = true → d.opmask ≠ 0#3 →
      s.readElements w (((List.range (d.vlBits / w)).filter (selects s d)).map
        fun i => d.addr + BitVec.ofNat 64 (i * (w / 8))) = .ok es s₁ →
        ∃ t, exec (make d) s = .next t ∧
          MaskedResult s t d w (fun i => es.getD ((List.range i).countP (selects s d)) 0#w) ∧
          KeepsFlags s₁ t ∧ Frame s₁ t d [] [d.dst.toNat] []
  loads 8 .vmovdqu8Ld ∧ loads 16 .vmovdqu16Ld ∧ loads 32 .vmovdqu32Ld ∧ loads 64 .vmovdqu64Ld

/-- R279, R89: VMOVDQU stores. Without a mask the whole operand is stored; under a mask the selected elements are, each at its own
address, in ascending order. Every byte outside the stored elements keeps its value, and each element stored in ordinary
memory reads back. -/
def Obligations.VectorStores : Prop :=
  let stores (w : Nat) (make : Desc → Instr) : Prop :=
    (∀ (d : Desc) (s : State), Ready s (make d) → d.opmask = 0#3 → s.target d.addr (d.vlBits / 8) = .memory →
      memFaultOf s.memFaults true d.addr (d.vlBits / 8) = none →
        ∃ t, exec (make d) s = .next t ∧ t.rip = s.rip + d.ilen.setWidth 64 ∧
          StoredBytes s t d.addr (d.vlBits / 8) (s.vreg d.src2.toNat) ∧
          KeepsRegisters s t [] [] [] ∧ KeepsFlags s t ∧ KeepsOutside s t) ∧
    ∀ (d : Desc) (s s₁ : State), Ready s (make d) → d.opmask ≠ 0#3 →
      let sel := (List.range (d.vlBits / w)).filter (selects s d)
      let ea (i : Nat) : Word := d.addr + BitVec.ofNat 64 (i * (w / 8))
      s.writeElements w (sel.map fun i => (ea i, lane w (s.vreg d.src2.toNat) i)) = .ok () s₁ →
        ∃ t, exec (make d) s = .next t ∧ KeepsFlags s₁ t ∧ Frame s₁ t d [] [] [] ∧ KeepsRegisters s t [] [] [] ∧
          (∀ b : Word, (∀ i ∈ sel, ∀ j < w / 8, b ≠ ea i + BitVec.ofNat 64 j) → t.byteAt b = s.byteAt b) ∧
          ∀ i ∈ sel, s.target (ea i) (w / 8) = .memory →
            ∀ j < w / 8, t.byteAt (ea i + BitVec.ofNat 64 j) = lane 8 (s.vreg d.src2.toNat) (i * (w / 8) + j)
  stores 8 .vmovdqu8St ∧ stores 16 .vmovdqu16St ∧ stores 32 .vmovdqu32St ∧ stores 64 .vmovdqu64St

/-! AVX-512 (45_avx512.md). -/

/-- R290, R291, R156: VPCMP and VPCMPU: bit `i` of the destination opmask register is the predicate on elements `i` where the write
mask selects them, 0 elsewhere and from the element count up. -/
def Obligations.CompareToMask : Prop :=
  let compares (w : Nat) (make : Desc → Instr) (lt le : BitVec w → BitVec w → Bool) : Prop :=
    ∀ (d : Desc) (s s₁ : State) (b : Packed), Ready s (make d) → s.srcV d.vlBits d d.src2 = .ok b s₁ →
      ∃ t, exec (make d) s = .next t ∧
        (∀ i < 64, (t.kreg d.dst.toNat).getLsbD i = (decide (i < d.vlBits / w) && selects s d i &&
          (let x := lane w (s.vreg d.src1.toNat) i
           let y := lane w b i
           match d.imm.toNat % 8 with
           | 0 => decide (x = y)
           | 1 => lt x y
           | 2 => le x y
           | 3 => false
           | 4 => !decide (x = y)
           | 5 => !lt x y
           | 6 => !le x y
           | _ => true))) ∧
        KeepsFlags s₁ t ∧ Frame s₁ t d [] [] [d.dst.toNat]
  (compares 8 .vpcmpb BitVec.slt BitVec.sle ∧ compares 16 .vpcmpw BitVec.slt BitVec.sle ∧
    compares 32 .vpcmpd BitVec.slt BitVec.sle ∧ compares 64 .vpcmpq BitVec.slt BitVec.sle) ∧
  compares 8 .vpcmpub BitVec.ult BitVec.ule ∧ compares 16 .vpcmpuw BitVec.ult BitVec.ule ∧
    compares 32 .vpcmpud BitVec.ult BitVec.ule ∧ compares 64 .vpcmpuq BitVec.ult BitVec.ule

/-- R292, register destination: the selected elements in order from element 0; above them zeros, or the old elements under a
merge. -/
def Obligations.CompressToRegister : Prop :=
  let compresses (w : Nat) (make : Desc → Instr) : Prop :=
    ∀ (d : Desc) (s : State), Ready s (make d) → d.memform = false →
      let sel := (List.range (d.vlBits / w)).filter (selects s d)
      let old := s.vreg d.dst.toNat
      ∃ t, exec (make d) s = .next t ∧
        (∀ j < d.vlBits / w, lane w (t.vreg d.dst.toNat) j =
          if j < sel.length then lane w (s.vreg d.src2.toNat) (sel.getD j 0) else if d.zmask then 0#w else lane w old j) ∧
        (∀ j < 512, d.vlBits ≤ j → (t.vreg d.dst.toNat).getLsbD j =
          (decide (d.opmask ≠ 0#3) && !d.zmask && decide (s.cfg.mergeUpper = .preserve) && old.getLsbD j)) ∧
        KeepsFlags s t ∧ Frame s t d [] [d.dst.toNat] []
  compresses 8 .vpcompressb ∧ compresses 16 .vpcompressw ∧ compresses 32 .vpcompressd ∧ compresses 64 .vpcompressq

/-- R292, R89, memory destination: the selected elements contiguous from `addr`, one access each, in order; no other byte of
memory changes. -/
def Obligations.CompressToMemory : Prop :=
  let compresses (w : Nat) (make : Desc → Instr) : Prop :=
    ∀ (d : Desc) (s s₁ : State), Ready s (make d) → d.memform = true →
      let sel := (List.range (d.vlBits / w)).filter (selects s d)
      let ea (j : Nat) : Word := d.addr + BitVec.ofNat 64 (j * (w / 8))
      s.writeElements w ((List.range sel.length).map fun j => (ea j, lane w (s.vreg d.src2.toNat) (sel.getD j 0))) =
        .ok () s₁ →
        ∃ t, exec (make d) s = .next t ∧ KeepsFlags s₁ t ∧ Frame s₁ t d [] [] [] ∧ KeepsRegisters s t [] [] [] ∧
          (∀ b : Word, (∀ j < sel.length * (w / 8), b ≠ d.addr + BitVec.ofNat 64 j) → t.byteAt b = s.byteAt b) ∧
          ∀ j < sel.length, s.target (ea j) (w / 8) = .memory → ∀ k < w / 8,
            t.byteAt (ea j + BitVec.ofNat 64 k) = lane 8 (s.vreg d.src2.toNat) (sel.getD j 0 * (w / 8) + k)
  compresses 8 .vpcompressb ∧ compresses 16 .vpcompressw ∧ compresses 32 .vpcompressd ∧ compresses 64 .vpcompressq

/-- R293, R89: VPEXPAND: the element selected with rank `j` receives element `j` of the source; from memory under a mask only as
many elements are read as the mask selects. -/
def Obligations.ExpandBySelection : Prop :=
  let expands (w : Nat) (make : Desc → Instr) : Prop :=
    (∀ (d : Desc) (s s₁ : State) (b : Packed), Ready s (make d) → d.memform = false ∨ d.opmask = 0#3 →
      s.srcV d.vlBits d d.src2 = .ok b s₁ →
        ∃ t, exec (make d) s = .next t ∧
          MaskedResult s t d w (fun i => lane w b ((List.range i).countP (selects s d))) ∧
          KeepsFlags s₁ t ∧ Frame s₁ t d [] [d.dst.toNat] []) ∧
    ∀ (d : Desc) (s s₁ : State) (es : List (BitVec w)), Ready s (make d) → d.memform = true → d.opmask ≠ 0#3 →
      s.readElements w ((List.range ((List.range (d.vlBits / w)).countP (selects s d))).map
        fun j => d.addr + BitVec.ofNat 64 (j * (w / 8))) = .ok es s₁ →
        ∃ t, exec (make d) s = .next t ∧
          MaskedResult s t d w (fun i => es.getD ((List.range i).countP (selects s d)) 0#w) ∧
          KeepsFlags s₁ t ∧ Frame s₁ t d [] [d.dst.toNat] []
  expands 8 .vpexpandb ∧ expands 16 .vpexpandw ∧ expands 32 .vpexpandd ∧ expands 64 .vpexpandq

/-- R293: "expand(compress(source, mask), mask) restores the original selected lanes": VPCOMPRESS to a register, then VPEXPAND of
that register under the same mask with zero masking. -/
def Obligations.ExpandRestoresCompressed : Prop :=
  let restores (w : Nat) (compress expand : Desc → Instr) : Prop :=
    ∀ (c e : Desc) (s t u : State), Ready s (compress c) → Ready s (expand e) → c.memform = false → e.memform = false →
      c.opmask ≠ 0#3 → e.opmask = c.opmask → e.vl = c.vl → e.src2 = c.dst → e.zmask = true →
      exec (compress c) s = .next t → exec (expand e) t = .next u →
        ∀ i < c.vlBits / w, lane w (u.vreg e.dst.toNat) i =
          if (s.kreg c.opmask.toNat).getLsbD i then lane w (s.vreg c.src2.toNat) i else 0#w
  restores 8 .vpcompressb .vpexpandb ∧ restores 16 .vpcompressw .vpexpandw ∧ restores 32 .vpcompressd .vpexpandd ∧
    restores 64 .vpcompressq .vpexpandq

/-- R294, R295: VPERM takes its indices modulo the element count; VALIGN shifts the concatenation of the first source (high) and the
second (low) right by a count of elements taken modulo the element count. -/
def Obligations.PermuteAndAlign : Prop :=
  let permute (w : Nat) : Elements w := fun d s b i => lane w b ((lane w (s.vreg d.src1.toNat) i).toNat % (d.vlBits / w))
  let align (w : Nat) : Elements w := fun d s b i =>
    let n := d.vlBits / w
    let k := i + d.imm.toNat % 256 % n
    if k < n then lane w b k else lane w (s.vreg d.src1.toNat) (k - n)
  (VecResult .vpermb (permute 8) ∧ VecResult .vpermw (permute 16) ∧ VecResult .vpermd (permute 32) ∧
    VecResult .vpermq (permute 64)) ∧
  VecResult .valignd (align 32) ∧ VecResult .valignq (align 64)

/-- R296: KMOV, both directions, at 8, 16, 32 and 64 bits. -/
def Obligations.OpmaskMoves : Prop :=
  let toMask (b : Nat) (make : Desc → Instr) : Prop :=
    ∀ (d : Desc) (s : State), Ready s (make d) →
      ∃ t, exec (make d) s = .next t ∧ t.kreg d.dst.toNat = ((s.gpr d.src1.toNat).setWidth b).setWidth 64 ∧
        KeepsFlags s t ∧ Frame s t d [] [] [d.dst.toNat]
  let toGpr (b : Nat) (make : Desc → Instr) : Prop :=
    ∀ (d : Desc) (s : State), Ready s (make d) →
      ∃ t, exec (make d) s = .next t ∧ t.gpr d.dst.toNat = ((s.kreg d.src1.toNat).setWidth b).setWidth 64 ∧
        KeepsFlags s t ∧ Frame s t d [d.dst.toNat] [] []
  (toMask 8 .kmovbKg ∧ toMask 16 .kmovwKg ∧ toMask 32 .kmovdKg ∧ toMask 64 .kmovqKg) ∧
  toGpr 8 .kmovbGk ∧ toGpr 16 .kmovwGk ∧ toGpr 32 .kmovdGk ∧ toGpr 64 .kmovqGk

/-! XOP (46_xop.md). -/

/-- R321, R322, R157: VPCOM and VPCOMU, with the predicate table of XOP. -/
def Obligations.XopCompares : Prop :=
  let cmp (w : Nat) (lt le : BitVec w → BitVec w → Bool) : Elements w := fun d s b i =>
    let x := lane w (s.vreg d.src1.toNat) i
    let y := lane w b i
    onesIf w ((match d.imm.toNat % 8 with
      | 0 => lt x y
      | 1 => le x y
      | 2 => !le x y
      | 3 => !lt x y
      | 4 => decide (x = y)
      | 5 => !decide (x = y)
      | 6 => false
      | _ => true) = true)
  (ZeroingResult .vpcomb (cmp 8 BitVec.slt BitVec.sle) ∧ ZeroingResult .vpcomw (cmp 16 BitVec.slt BitVec.sle) ∧
    ZeroingResult .vpcomd (cmp 32 BitVec.slt BitVec.sle) ∧ ZeroingResult .vpcomq (cmp 64 BitVec.slt BitVec.sle)) ∧
  ZeroingResult .vpcomub (cmp 8 BitVec.ult BitVec.ule) ∧ ZeroingResult .vpcomuw (cmp 16 BitVec.ult BitVec.ule) ∧
    ZeroingResult .vpcomud (cmp 32 BitVec.ult BitVec.ule) ∧ ZeroingResult .vpcomuq (cmp 64 BitVec.ult BitVec.ule)

/-- R323, R324, R158: VPPERM chooses one of 32 source bytes and an operation per byte; VPCMOV chooses bit by bit. -/
def Obligations.XopPermuteAndConditionalMove : Prop :=
  ZeroingResult (w := 8) .vpperm (fun d s b i =>
    let sel := (lane 8 (s.vreg d.src3.toNat) i).toNat
    let x := if sel % 32 < 16 then lane 8 b (sel % 16) else lane 8 (s.vreg d.src1.toNat) (sel % 16)
    match sel / 32 with
    | 0 => x
    | 1 => ~~~ x
    | 2 => x.reverse
    | 3 => ~~~ x.reverse
    | 4 => 0x00#8
    | 5 => 0xFF#8
    | 6 => x.sshiftRight 7
    | _ => ~~~ x.sshiftRight 7) ∧
  ZeroingResult (w := 1) .vpcmov (fun d s b i =>
    if (s.vreg d.src3.toNat).getLsbD i then lane 1 (s.vreg d.src1.toNat) i else lane 1 b i)

/-- R325 to R336, R145, R182: the multiply-accumulates: exact products and sums on the signed readings, narrowed once, by
clamping to the element's range or by dropping the upper bits. -/
def Obligations.MultiplyAccumulate : Prop :=
  let clamp (w : Nat) (v : Int) : BitVec w := BitVec.ofInt w (max (-(2 ^ (w - 1))) (min v (2 ^ (w - 1) - 1)))
  let macOf (ws wr : Nat) (pick : Nat → Nat) (narrow : Int → BitVec wr) : Elements wr := fun d s b i =>
    narrow ((lane ws (s.vreg d.src1.toNat) (pick i)).toInt * (lane ws b (pick i)).toInt +
      (lane wr (s.vreg d.src3.toNat) i).toInt)
  let madOf (narrow : Int → BitVec 32) : Elements 32 := fun d s b i =>
    narrow ((lane 16 (s.vreg d.src1.toNat) (2 * i)).toInt * (lane 16 b (2 * i)).toInt +
      (lane 16 (s.vreg d.src1.toNat) (2 * i + 1)).toInt * (lane 16 b (2 * i + 1)).toInt +
      (lane 32 (s.vreg d.src3.toNat) i).toInt)
  (ZeroingResult .vpmacssww (macOf 16 16 (fun i => i) (clamp 16)) ∧
    ZeroingResult .vpmacsww (macOf 16 16 (fun i => i) (BitVec.ofInt 16)) ∧
    ZeroingResult .vpmacssdd (macOf 32 32 (fun i => i) (clamp 32)) ∧
    ZeroingResult .vpmacsdd (macOf 32 32 (fun i => i) (BitVec.ofInt 32))) ∧
  (ZeroingResult .vpmacsswd (macOf 16 32 (fun i => 2 * i + 1) (clamp 32)) ∧
    ZeroingResult .vpmacswd (macOf 16 32 (fun i => 2 * i + 1) (BitVec.ofInt 32)) ∧
    ZeroingResult .vpmacssdqh (macOf 32 64 (fun i => 2 * i + 1) (clamp 64)) ∧
    ZeroingResult .vpmacsdqh (macOf 32 64 (fun i => 2 * i + 1) (BitVec.ofInt 64))) ∧
  (ZeroingResult .vpmacssdql (macOf 32 64 (fun i => 2 * i) (clamp 64)) ∧
    ZeroingResult .vpmacsdql (macOf 32 64 (fun i => 2 * i) (BitVec.ofInt 64))) ∧
  ZeroingResult .vpmadcsswd (madOf (clamp 32)) ∧ ZeroingResult .vpmadcswd (madOf (BitVec.ofInt 32))

/-! Memory and the LAPIC window (20_memory.md). -/

/-- R81, R82, R353: an access to ordinary memory: a fault is forwarded unchanged and nothing changes; otherwise a read gives the
bytes with the lowest address in bits 7:0 and changes nothing, and a write stores the low bytes of the value there, changes
no other byte and nothing else, and keeps the canonical form of memory. -/
def Obligations.MemoryAccesses : Prop :=
  ∀ (s : State) (a : Word) (n : Nat) (v : Packed), n ≤ 64 → s.target a n = .memory →
    (∀ r, memFaultOf s.memFaults false a n = some r → s.memRead a n = .raised (.memFault r) s) ∧
    (memFaultOf s.memFaults false a n = none → ∃ x, s.memRead a n = .ok x s ∧
      (∀ i < n, lane 8 x i = s.byteAt (a + BitVec.ofNat 64 i)) ∧ ∀ j, 8 * n ≤ j → x.getLsbD j = false) ∧
    (∀ r, memFaultOf s.memFaults true a n = some r → s.memWrite a n v = .raised (.memFault r) s) ∧
    (memFaultOf s.memFaults true a n = none → ∃ t, s.memWrite a n v = .ok () t ∧ StoredBytes s t a n v ∧
      t = { s with mem := t.mem } ∧ (Memory.wf s.mem → Memory.wf t.mem))

/-- R86, R90, R354: where an access goes. Outside XAPIC mode the window is not decoded. In XAPIC mode 4 bytes at a 16-byte aligned
offset reach the register of that slot; any other access with a byte in the window raises `MalformedApicAccess` and changes
nothing; the rest goes to memory. Then, for the access that reaches a slot, what each register gives when read (R422, R429)
and keeps when written (R390, R402, R410, R421 to R429); APR, PPR, the timer counts, EOI, SEOI and the send of ICR_LO are the
operations other rules give. -/
def Obligations.ApicWindowRouting : Prop :=
  (∀ (s : State) (a : Word), ∀ n ∈ [1, 2, 4, 8, 16, 32, 64],
    let inside (i : Nat) : Prop := (a + BitVec.ofNat 64 i - s.cfg.apicBase).toNat < 0x1000
    let aligned : Prop := n = 4 ∧ inside 0 ∧ (a - s.cfg.apicBase).toNat % 16 = 0
    (s.cpu.lapic.mode ≠ .xapic → s.target a n = .memory) ∧
    (s.cpu.lapic.mode = .xapic →
      (aligned → s.target a n = .window (BitVec.ofNat 8 ((a - s.cfg.apicBase).toNat / 16))) ∧
      (¬ aligned → (∃ i < n, inside i) →
        s.memRead a n = .raised (.malformedApicAccess (a - s.cfg.apicBase) n false) s ∧
        ∀ v, s.memWrite a n v = .raised (.malformedApicAccess (a - s.cfg.apicBase) n true) s) ∧
      ((∀ i < n, ¬ inside i) → s.target a n = .memory))) ∧
  ∀ (s : State) (a : Word) (slot : BitVec 8), s.target a 4 = .window slot →
    let n := slot.toNat
    let l := s.cpu.lapic
    let ext := s.cfg.xapicExtSupported = true
    let idMask : BitVec 32 := if s.cfg.xapic then 0xFF#32 else 0x0F#32
    let reads (v : BitVec 32) : Prop := s.memRead a 4 = .ok (v.setWidth 512) s
    let becomes (r : LapicEff) (v : Packed) : Prop := s.memWrite a 4 v = .ok () (s.putLapic r)
    let stores (f : BitVec 32 → Lapic) : Prop := ∀ v, becomes (f (v.setWidth 32), []) v
    let does (r : Except Invariant LapicEff) (v : Packed) : Prop :=
      (∀ e, r = .ok e → becomes e v) ∧ ∀ i, r = .error i → s.memWrite a 4 v = .stopped i
    (n = 0x02 → reads ((l.apicId &&& idMask) <<< 24) ∧ stores fun _ => l) ∧
    (n = 0x03 → reads s.cfg.apicVersion ∧ stores fun _ => l) ∧
    (n = 0x08 → reads (l.taskPriority.setWidth 32) ∧
      ∀ v, becomes (Lapic.service s.cfg { l with taskPriority := v.setWidth 8 }) v) ∧
    (n = 0x09 → reads ((l.apr s.cfg).setWidth 32) ∧ stores fun _ => l) ∧
    (n = 0x0A → reads ((l.ppr s.cfg).setWidth 32) ∧ stores fun _ => l) ∧
    (n = 0x0B → reads 0#32 ∧ ∀ v, does (l.receiveEoi s.cfg) v) ∧
    (n = 0x0D → reads ((l.ldr &&& idMask) <<< 24) ∧ stores fun v => { l with ldr := v >>> 24 &&& idMask }) ∧
    (n = 0x0E → reads (l.destFormat ++ 0x0FFFFFFF#28) ∧ stores fun v => { l with destFormat := v.extractLsb' 28 4 }) ∧
    (n = 0x0F → reads (0#22 ++ BitVec.ofBool l.focusDisable ++ BitVec.ofBool l.softwareEnabled ++ l.spuriousVector) ∧
      stores fun v => { l with
        spuriousVector := if s.cfg.xapic then v.setWidth 8 else v.extractLsb' 4 4 ++ 0xF#4
        softwareEnabled := v.getLsbD 8, focusDisable := v.getLsbD 9 }) ∧
    (0x10 ≤ n ∧ n < 0x18 → reads (bmWord l.isr (n - 0x10)) ∧ stores fun _ => l) ∧
    (0x18 ≤ n ∧ n < 0x20 → reads (bmWord l.tmr (n - 0x18)) ∧ stores fun _ => l) ∧
    (0x20 ≤ n ∧ n < 0x28 → reads (bmWord l.irr (n - 0x20)) ∧ stores fun _ => l) ∧
    (n = 0x2F ∨ 0x33 ≤ n ∧ n < 0x38 →
      let i := if n = 0x2F then 6 else n - 0x32
      let mask : BitVec 32 := if i = 3 ∨ i = 4 then 0x0001A7FF#32 else if i = 5 then 0x000100FF#32 else 0x000107FF#32
      reads (l.lvtEntry i) ∧ stores fun v => { l with lvt := l.lvt.setIfInBounds i (v &&& mask) }) ∧
    (n = 0x30 → reads l.icrLo ∧ ∀ v,
      let lo := v.setWidth 32 &&& 0xFFFFEFFF#32
      s.memWrite a 4 v = .ok () ((s.putLapic ({ l with icrLo := lo }, [])).sendIpi (l.icrHi >>> 24) lo)) ∧
    (n = 0x31 → reads l.icrHi ∧ stores fun v => { l with icrHi := v &&& 0xFF000000#32 }) ∧
    (n = 0x32 → reads (l.lvtEntry 0) ∧ stores fun v =>
      let v := if s.cfg.tscDeadlineSupported then v else v &&& 0xFFFBFFFF#32
      let m := if v.getLsbD 18 = (l.lvtEntry 0).getLsbD 18 then l else
        { l with timerActive := false, ticksInitial := 0#64,
                 timerHandle := { l.timerHandle with armed := l.timerHandle.armed && !l.timerActive } }
      { m with lvt := m.lvt.setIfInBounds 0 (v &&& 0x000700FF#32) }) ∧
    (n = 0x38 → reads l.timerInitial ∧ stores fun v => l.setInitialCount s.now v) ∧
    (n = 0x39 → (∀ v r, l.currentCount s.cfg s.now = .ok (v, r) → s.memRead a 4 = .ok (v.setWidth 512) (s.putLapic r)) ∧
      (∀ i, l.currentCount s.cfg s.now = .error i → s.memRead a 4 = .stopped i) ∧ stores fun _ => l) ∧
    (n = 0x3E → reads (l.timerDivconf.setWidth 32) ∧ stores fun v =>
      let code := (v.toNat / 8 % 2) * 4 + v.toNat % 4
      { l with timerDivconf := v.setWidth 4 &&& 0xB#4,
               timerDivideFactor := BitVec.ofNat 8 (if code = 7 then 1 else 2 ^ (code + 1)) }) ∧
    (n = 0x40 → ext → reads s.cfg.extFeatureValue ∧ stores fun _ => l) ∧
    (n = 0x41 → ext → reads l.xapicExt ∧ stores fun v => { l with xapicExt := v &&& 0x3#32 }) ∧
    (n = 0x42 → ext → reads 0#32 ∧ ∀ v,
      becomes (if l.xapicExt.getLsbD 1 = true then l.receiveSeoi s.cfg (v.setWidth 8) else (l, [])) v) ∧
    (0x48 ≤ n ∧ n < 0x50 → ext → reads (bmWord l.ier (n - 0x48)) ∧ stores fun v =>
      if l.xapicExt.getLsbD 0 = true then { l with ier := bmSetWord l.ier (n - 0x48) v } else l)

/-- R421, R422, R424, R429, R434: an access to an undefined register of the window (the extended ones too where they are not
supported) reads 0, stores nothing and adds 0x80 to the shadow error status; an ESR write moves the shadow to the visible
register and clears it; an ESR read gives what the last write latched. Each acts on the LAPIC of the CPU that makes the access and changes nothing else. -/
def Obligations.ErrorStatusIsLatched : Prop :=
  ∀ (s : State) (a : Word) (slot : BitVec 8) (v : Packed), s.target a 4 = .window slot →
    let n := slot.toNat
    let l := s.cpu.lapic
    let withLapic (m : Lapic) : State := { s with cpu := { s.cpu with lapic := m } }
    (n < 0x02 ∨ 0x04 ≤ n ∧ n < 0x08 ∨ n = 0x0C ∨ 0x29 ≤ n ∧ n < 0x2F ∨ 0x3A ≤ n ∧ n < 0x3E ∨ n = 0x3F ∨
        0x43 ≤ n ∧ n < 0x48 ∨ 0x50 ≤ n ∨
        s.cfg.xapicExtSupported = false ∧ (0x40 ≤ n ∧ n < 0x43 ∨ 0x48 ≤ n ∧ n < 0x50) →
      s.memRead a 4 = .ok 0#512 (withLapic { l with shadowErrorStatus := l.shadowErrorStatus ||| 0x80#32 }) ∧
      s.memWrite a 4 v = .ok () (withLapic { l with shadowErrorStatus := l.shadowErrorStatus ||| 0x80#32 })) ∧
    (slot = 0x28#8 →
      s.memRead a 4 = .ok (l.errorStatus.setWidth 512) s ∧
      s.memWrite a 4 v = .ok () (withLapic { l with errorStatus := l.shadowErrorStatus, shadowErrorStatus := 0#32 }))

/-! The local APIC (60_exceptions.md). -/

/-- R362: the priority scan answers the numerically highest vector in the bitmap, of those the interrupt-enable registers let
through where they are active. -/
def Obligations.PriorityScanFindsTheHighest : Prop :=
  ∀ (cfg : Config) (l : Lapic) (map : Bitmap),
    let open_ (v : BitVec 8) : Prop :=
      bmTest map v = true ∧ (cfg.xapicExtSupported = true → l.xapicExt.getLsbD 0 = true → bmTest l.ier v = true)
    (∀ v, l.highestPriorityInt cfg map = some v ↔ open_ v ∧ ∀ u : BitVec 8, v.toNat < u.toNat → ¬ open_ u) ∧
    (l.highestPriorityInt cfg map = none ↔ ∀ v, ¬ open_ v)

/-- R363, R364: `trigger_irq`. A vector below 16 only sets bit 6 of the shadow error status; one already pending, without bypass,
does nothing at all; another becomes pending with its trigger mode recorded, and the CPU is signalled, once, exactly when the
signal was not asserted, no vector of equal or higher number is in service, and the class of the highest pending vector
is above the class of the task priority. -/
def Obligations.TriggerIrq : Prop :=
  ∀ (cfg : Config) (l : Lapic) (v : BitVec 8) (trig : Trigger) (bypass : Bool),
    (v.toNat < 16 → l.triggerIrq cfg v trig bypass =
      ({ l with shadowErrorStatus := l.shadowErrorStatus ||| 0x40#32 }, [])) ∧
    (16 ≤ v.toNat → bypass = false → bmTest l.irr v = true → l.triggerIrq cfg v trig bypass = (l, [])) ∧
    (16 ≤ v.toNat → bypass = true ∨ bmTest l.irr v = false →
      let m := (l.triggerIrq cfg v trig bypass).1
      let asserts : Prop := l.intrPending = false ∧ ∃ first, m.highestPriorityInt cfg m.irr = some first ∧
        (∀ w, m.highestPriorityInt cfg l.isr = some w → w.toNat < first.toNat) ∧
        l.taskPriority.toNat / 16 < first.toNat / 16
      m = { l with irr := m.irr, tmr := m.tmr, intrPending := m.intrPending } ∧
      (∀ u, bmTest m.irr u = (decide (u = v) || bmTest l.irr u)) ∧
      (∀ u, bmTest m.tmr u = if u = v then decide (trig = .level) else bmTest l.tmr u) ∧
      (m.intrPending = true ↔ l.intrPending = true ∨ asserts) ∧
      (asserts → (l.triggerIrq cfg v trig bypass).2 = [.signalEvent]) ∧
      (¬ asserts → (l.triggerIrq cfg v trig bypass).2 = []))

/-- R365, R447: `acknowledge_int`. Without the signal it is an invariant violation, after which under `recover` the spurious vector
is answered and nothing changes. With it the signal is cleared first; the highest pending vector is accepted, moving from
pending to in service, exactly when its class is above that of the processor priority (R367: the higher of the classes of the
task priority and of the highest vector in service); else the spurious vector is answered and no bitmap changes. After an
acceptance the signal is given anew exactly when `service_local_apic` says so (R364). -/
def Obligations.AcknowledgeInt : Prop :=
  ∀ (cfg : Config) (l : Lapic),
    (l.intrPending = false → cfg.invariantPolicy = .recover →
      l.acknowledgeInt cfg = .ok (l.spuriousVector, (l, [.invariant .acknowledgeWithoutIntr]))) ∧
    (l.intrPending = false → cfg.invariantPolicy = .fault → l.acknowledgeInt cfg = .error .acknowledgeWithoutIntr) ∧
    (l.intrPending = true →
      let above (v : BitVec 8) : Prop := l.taskPriority.toNat / 16 < v.toNat / 16 ∧
        ∀ w, l.highestPriorityInt cfg l.isr = some w → w.toNat / 16 < v.toNat / 16
      (∀ v, l.highestPriorityInt cfg l.irr = some v → above v →
        ∃ m es, l.acknowledgeInt cfg = .ok (v, (m, .clearEvent :: es)) ∧
          m = { l with irr := m.irr, isr := m.isr, intrPending := m.intrPending } ∧
          (∀ u, bmTest m.irr u = (!decide (u = v) && bmTest l.irr u)) ∧
          (∀ u, bmTest m.isr u = (decide (u = v) || bmTest l.isr u)) ∧
          let asserts : Prop := ∃ first, m.highestPriorityInt cfg m.irr = some first ∧
            (∀ w, m.highestPriorityInt cfg m.isr = some w → w.toNat < first.toNat) ∧
            l.taskPriority.toNat / 16 < first.toNat / 16
          (m.intrPending = true ↔ asserts) ∧ (asserts → es = [.signalEvent]) ∧ (¬ asserts → es = [])) ∧
      ((∀ v, l.highestPriorityInt cfg l.irr = some v → ¬ above v) →
        l.acknowledgeInt cfg = .ok (l.spuriousVector, ({ l with intrPending := false }, [.clearEvent]))))

/-- R366, R447: `receive_EOI` ends the highest vector in service: it leaves service, and if its trigger mode is level the bit is
cleared and the EOI is broadcast once; for an edge-triggered vector nothing is broadcast. Then the signal is given, where it
was not asserted, exactly when `service_local_apic` says so (R364). With nothing in service it is an invariant violation,
which under `recover` changes nothing. -/
def Obligations.ReceiveEoi : Prop :=
  ∀ (cfg : Config) (l : Lapic),
    (l.highestPriorityInt cfg l.isr = none →
      (cfg.invariantPolicy = .recover → l.receiveEoi cfg = .ok (l, [.invariant .eoiWithoutIsr])) ∧
      (cfg.invariantPolicy = .fault → l.receiveEoi cfg = .error .eoiWithoutIsr)) ∧
    ∀ v, l.highestPriorityInt cfg l.isr = some v →
      ∃ m es, l.receiveEoi cfg = .ok (m, (if bmTest l.tmr v then [.broadcastEoi v] else []) ++ es) ∧
        m = { l with isr := m.isr, tmr := m.tmr, intrPending := m.intrPending } ∧
        (∀ u, bmTest m.isr u = (!decide (u = v) && bmTest l.isr u)) ∧
        (∀ u, bmTest m.tmr u = (!decide (u = v) && bmTest l.tmr u)) ∧
        let asserts : Prop := l.intrPending = false ∧ ∃ first, m.highestPriorityInt cfg l.irr = some first ∧
          (∀ w, m.highestPriorityInt cfg m.isr = some w → w.toNat < first.toNat) ∧
          l.taskPriority.toNat / 16 < first.toNat / 16
        (m.intrPending = true ↔ l.intrPending = true ∨ asserts) ∧ (asserts → es = [.signalEvent]) ∧ (¬ asserts → es = [])

/-- R375 to R378, R383, R384: a fixed interrupt sent to one physical identifier (no shorthand, not the broadcast identifier) triggers
the vector on the first live LAPIC that has the identifier and changes no other LAPIC; where none has it, only bit 2 of the
sender's shadow error status is set. -/
def Obligations.FixedInterruptReachesItsTarget : Prop :=
  ∀ (s : State) (dest lo : BitVec 32),
    lo.extractLsb' 18 2 = 0#2 → lo.getLsbD 11 = false → lo.extractLsb' 8 3 = 0#3 →
    isBroadcast s.cfg (decide (s.cpu.lapic.mode = .x2apic)) dest = false →
    let takes (i : Nat) : Prop :=
      ∃ l, s.lapicAt i = some l ∧ (l.mode = .xapic ∨ l.mode = .x2apic) ∧ l.apicId = dest
    let trig := if lo.getLsbD 15 then Trigger.level else Trigger.edge
    (∀ i l, s.lapicAt i = some l → takes i → (∀ j < i, ¬ takes j) →
      (s.sendIpi dest lo).lapicAt i = some (l.triggerIrq s.cfg (lo.setWidth 8) trig false).1 ∧
      ∀ j ≠ i, (s.sendIpi dest lo).lapicAt j = s.lapicAt j) ∧
    ((∀ i, ¬ takes i) →
      s.sendIpi dest lo = { s with cpu := { s.cpu with lapic :=
        { s.cpu.lapic with shadowErrorStatus := s.cpu.lapic.shadowErrorStatus ||| 0x04#32 } } })

/-- R382, R383: a fixed interrupt sent to all but the sender triggers the vector on every other live LAPIC and leaves every LAPIC
that is not live, and the sender, as they were. -/
def Obligations.BroadcastExcludesTheSender : Prop :=
  ∀ (s : State) (dest lo : BitVec 32), lo.extractLsb' 18 2 = 3#2 → lo.extractLsb' 8 3 = 0#3 →
    let trig := if lo.getLsbD 15 then Trigger.level else Trigger.edge
    (s.sendIpi dest lo).lapicAt s.focus = s.lapicAt s.focus ∧
    ∀ i l, s.lapicAt i = some l → i ≠ s.focus →
      (s.sendIpi dest lo).lapicAt i =
        some (if l.mode = .xapic ∨ l.mode = .x2apic then (l.triggerIrq s.cfg (lo.setWidth 8) trig false).1 else l)

/-- R436, R462: `set_mode`, row by row. -/
def Obligations.SetMode : Prop :=
  ∀ (cfg : Config) (l : Lapic) (m : ApicMode),
    let off (m : ApicMode) : Prop := m = .disabled ∨ m = .globallyDisabled
    (m = l.mode → l.setMode cfg m = (true, (l, []))) ∧
    (l.mode = .xapic → m = .x2apic → cfg.x2apicSupported = false → l.setMode cfg m = (false, (l, []))) ∧
    (l.mode = .xapic → m = .x2apic → cfg.x2apicSupported = true → l.setMode cfg m = (true,
      ({ l with mode := .x2apic, ldr := (l.apicId &&& 0xFFFFFFF0#32) <<< 16 ||| 1#32 <<< (l.apicId.toNat % 16) }, []))) ∧
    (¬ off l.mode → off m → l.setMode cfg m = (true,
      ({ Lapic.reset l.apicId with
          mode := m, timerHandle := { l.timerHandle with armed := l.timerHandle.armed && !l.timerActive } },
        [.clearEvent]))) ∧
    (off l.mode → m = .xapic ∨ off m → m ≠ l.mode → l.setMode cfg m = (true, ({ l with mode := m }, []))) ∧
    (l.mode = .x2apic → m = .xapic → l.setMode cfg m = (false, (l, []))) ∧
    (off l.mode → m = .x2apic → l.setMode cfg m = (false, (l, [])))

/-- R70, R404, R405: outside TSC-deadline mode a write of the initial count starts a countdown that expires after count times
divide-factor ticks (0 stops the timer), and after `delta` ticks, for as long as it has not run out, the current count reads
the initial count less the whole divide-factor periods gone by. -/
def Obligations.TimerCountsDown : Prop :=
  ∀ (cfg : Config) (l : Lapic) (now delta : Word) (count : BitVec 32), l.lvt[0].getLsbD 18 = false →
    let m := l.setInitialCount now count
    (count = 0#32 → m.timerActive = false ∧ m.timerInitial = 0#32 ∧ m.timerCurrent = 0#32 ∧
      (l.timerActive = true → m.timerHandle.armed = false) ∧ m.currentCount cfg (now + delta) = .ok (0#32, (m, []))) ∧
    (count ≠ 0#32 → m.timerActive = true ∧ m.timerInitial = count ∧ m.timerCurrent = count ∧ m.ticksInitial = now ∧
      m.timerHandle = ⟨true, now + BitVec.ofNat 64 (count.toNat * l.timerDivideFactor.toNat)⟩ ∧
      (delta.toNat ≤ count.toNat * l.timerDivideFactor.toNat →
        let left := count - BitVec.ofNat 32 (delta.toNat / l.timerDivideFactor.toNat)
        m.currentCount cfg (now + delta) = .ok (left, ({ m with timerCurrent := left }, []))))

/-- R406: `periodic`, called at the expiry of an active timer: an unmasked timer triggers its vector, edge-triggered; then a
TSC-deadline timer is disarmed, a periodic one is re-armed with the same initial count, a one-shot one is disarmed with
current count 0. An inactive timer does nothing. -/
def Obligations.TimerExpiry : Prop :=
  ∀ (cfg : Config) (l : Lapic) (now : Word),
    let raised : LapicEff :=
      if l.lvt[0].getLsbD 16 then (l, []) else l.triggerIrq cfg (l.lvt[0].setWidth 8) .edge false
    let m := (l.periodic cfg now).1
    (l.timerActive = false → l.periodic cfg now = (l, [])) ∧
    (l.timerActive = true → (l.periodic cfg now).2 = raised.2 ∧
      (l.lvt[0].getLsbD 18 = true → m = { raised.1 with
        timerActive := false, ticksInitial := 0#64, timerHandle := { l.timerHandle with armed := false } }) ∧
      (l.lvt[0].getLsbD 18 = false → l.lvt[0].getLsbD 17 = true → m = { raised.1 with
        timerCurrent := l.timerInitial, ticksInitial := now,
        timerHandle := ⟨true, now + BitVec.ofNat 64 (l.timerInitial.toNat * l.timerDivideFactor.toNat)⟩ }) ∧
      (l.lvt[0].getLsbD 18 = false → l.lvt[0].getLsbD 17 = false → m = { raised.1 with
        timerActive := false, timerCurrent := 0#32, timerHandle := { l.timerHandle with armed := false } }))

/-- R430 to R433: the MSR view. A write fails, changing nothing, outside X2APIC mode, when the upper half is not 0 for a register
other than ID (slot 0x02), LDR (0x0D) and ICR (0x30), when a bit reserved in TPR (0x08), EOI (0x0B), SVR (0x0F), ESR (0x28) or
SELF_IPI (0x3F) is set, and for every register that is not writable here; every other write succeeds. ID, LDR, ICR and SELF_IPI
have the effect of R432 and R433, the rest the effect of the window's write. A read fails, changing nothing, outside X2APIC mode
and for the registers not readable here; else it gives ID, LDR and ICR whole, and of the rest what the window gives. -/
def Obligations.MsrViewRejects : Prop :=
  ∀ (s : State) (slot : BitVec 8) (hi lo : BitVec 32),
    let n := slot.toNat
    let l := s.cpu.lapic
    let gives (v : Word) : Prop := l.x2apicRead s.cfg s.now slot = .ok (some v, (l, []))
    let shared : Prop := n ∈ [0x03, 0x08, 0x0A, 0x0F, 0x2F, 0x3E] ∨ 0x10 ≤ n ∧ n ≤ 0x28 ∨ 0x32 ≤ n ∧ n ≤ 0x39
    let becomes (r : LapicEff) : Prop := s.x2apicWrite slot hi lo = .ok (true, s.putLapic r)
    let asWindow (value : BitVec 32) : Prop :=
      (∀ t, s.mmioWrite slot value = .ok t → s.x2apicWrite slot hi lo = .ok (true, t)) ∧
      ∀ i, s.mmioWrite slot value = .error i → s.x2apicWrite slot hi lo = .error i
    (l.mode ≠ .x2apic → l.x2apicRead s.cfg s.now slot = .ok (none, (l, [])) ∧ s.x2apicWrite slot hi lo = .ok (false, s)) ∧
    (l.mode = .x2apic →
      (n = 0x02 → gives (l.apicId.setWidth 64)) ∧ (n = 0x0D → gives (l.ldr.setWidth 64)) ∧
      (n = 0x30 → gives (l.icrHi ++ l.icrLo)) ∧
      (shared →
        (∀ v r, l.mmioRead s.cfg s.now slot = .ok (v, r) →
          l.x2apicRead s.cfg s.now slot = .ok (some (v.setWidth 64), r)) ∧
        ∀ i, l.mmioRead s.cfg s.now slot = .error i → l.x2apicRead s.cfg s.now slot = .error i) ∧
      (n ∉ [0x02, 0x0D, 0x30] → ¬ shared → l.x2apicRead s.cfg s.now slot = .ok (none, (l, [])))) ∧
    (hi ≠ 0#32 → n ∉ [0x02, 0x0D, 0x30] → s.x2apicWrite slot hi lo = .ok (false, s)) ∧
    (n = 0x08 ∨ n = 0x3F → 0x100 ≤ lo.toNat → s.x2apicWrite slot hi lo = .ok (false, s)) ∧
    (n = 0x0B ∨ n = 0x28 → lo ≠ 0#32 → s.x2apicWrite slot hi lo = .ok (false, s)) ∧
    (n = 0x0F → lo &&& 0xFFFFEE00#32 ≠ 0#32 → s.x2apicWrite slot hi lo = .ok (false, s)) ∧
    (l.mode = .x2apic →
      (n = 0x02 → becomes ({ l with apicId := lo }, [])) ∧ (n = 0x0D → becomes ({ l with ldr := lo }, [])) ∧
      (n = 0x30 →
        let low := lo &&& 0xFFFFEFFF#32
        s.x2apicWrite slot hi lo =
          .ok (true, (s.putLapic ({ l with icrHi := hi, icrLo := low }, [])).sendIpi hi low)) ∧
      (hi = 0#32 →
        (n = 0x3F → lo.toNat < 0x100 → becomes (l.triggerIrq s.cfg (lo.setWidth 8) .edge false)) ∧
        (n = 0x08 → lo.toNat < 0x100 → asWindow lo) ∧ (n = 0x0B ∨ n = 0x28 → lo = 0#32 → asWindow lo) ∧
        (n = 0x0F → lo &&& 0xFFFFEE00#32 = 0#32 → asWindow lo) ∧
        (n ∈ [0x2F, 0x3E] ∨ 0x32 ≤ n ∧ n ≤ 0x38 → asWindow lo))) ∧
    (n ∉ [0x02, 0x08, 0x0B, 0x0D, 0x0F, 0x28, 0x2F, 0x30, 0x3E, 0x3F] → n < 0x32 ∨ 0x38 < n →
      s.x2apicWrite slot hi lo = .ok (false, s))

/-! Reset (70_reset_and_hazards.md). -/

/-- R71, R72, R460, R461: after a hardware reset, from any state, every CPU has the register values of R71 and the LAPIC values of
R72, the identifier being its own `APIC_ID0`; the time and memory are kept. -/
def Obligations.HardwareReset : Prop :=
  ∀ (s t : State) (rest : List Input), s.inputs = .hardwareReset :: rest → step s = .next t →
    t.now = s.now ∧ t.mem = s.mem ∧ t.cpus.length = s.cpus.length ∧ ∀ c ∈ t.cpus,
      (∀ i : Fin 16, i.val ≠ 2 → c.ee.gpr[i.val] = 0#64) ∧ c.ee.gpr[2] = t.cfg.resetRdx ∧
      c.ee.rip = 0xFFF0#64 ∧ c.ee.rflags = 0x2#64 ∧
      (∀ i : Fin 32, c.ee.v[i.val] = 0#512) ∧ (∀ i : Fin 8, c.ee.k[i.val] = 0#64) ∧
      c.lapic.apicId = c.apicId0 ∧ c.lapic.mode = .xapic ∧ c.lapic.intrPending = false ∧
      (∀ i : Fin 8, c.lapic.irr[i.val] = 0#32 ∧ c.lapic.isr[i.val] = 0#32 ∧ c.lapic.tmr[i.val] = 0#32 ∧
        c.lapic.ier[i.val] = 0xFFFFFFFF#32) ∧
      (∀ i : Fin 7, c.lapic.lvt[i.val] = 0x00010000#32) ∧ c.lapic.icrLo = 0#32 ∧ c.lapic.icrHi = 0#32 ∧
      c.lapic.timerInitial = 0#32 ∧ c.lapic.timerCurrent = 0#32 ∧ c.lapic.timerDivconf = 0#4 ∧
      c.lapic.timerDivideFactor = 2#8 ∧ c.lapic.timerActive = false ∧ c.lapic.ticksInitial = 0#64 ∧
      c.lapic.taskPriority = 0#8 ∧ c.lapic.spuriousVector = 0xFF#8 ∧ c.lapic.softwareEnabled = false ∧
      c.lapic.focusDisable = false ∧ c.lapic.ldr = 0#32 ∧ c.lapic.destFormat = 0xF#4 ∧ c.lapic.xapicExt = 0#32 ∧
      c.lapic.errorStatus = 0#32 ∧ c.lapic.shadowErrorStatus = 0#32

/-- R4, R463: only the agents of CPU `c`, or a reset of the whole machine, change the registers of `EE[c]`: a step whose schedule
element is anything but a descriptor or a software reset of CPU `c`, or the hardware reset, leaves them as they were. -/
def Obligations.OtherEnginesKeepTheirRegisters : Prop :=
  ∀ (s t : State) (i : Input) (rest : List Input) (c : Nat), s.inputs = i :: rest → step s = .next t →
    (∀ w, i ≠ .descriptor c w) → i ≠ .softwareReset c → i ≠ .hardwareReset →
      (t.cpus[c]?).map Cpu.ee = (s.cpus[c]?).map Cpu.ee

/-! The machine as a whole. -/

/-- The invariants of Safety.lean hold right after reset. -/
def Obligations.ResetMeetsTheInvariants : Prop :=
  State.reset.Inv

/-- Every step of the machine keeps them: memory stays in canonical form, the bits of RFLAGS that are no flag keep their values,
and every LAPIC keeps the relations between its fields. -/
def Obligations.EveryStepKeepsTheInvariants : Prop :=
  ∀ s t : State, s.Inv → step s = .next t → t.Inv

/-- R110, R118, R128: decoding the encoding of an instruction gives it back, every operand at every value. -/
def Obligations.DecodeUndoesEncode : Prop :=
  ∀ i : Instr, decode (encode i) = .ok i

/-- R110, R118, R119: a word that decodes is the encoding of what it decodes to, so no two words mean the same instruction; a word
is refused exactly when its low ten bits are no assigned id. -/
def Obligations.EncodeUndoesDecode : Prop :=
  (∀ (w : DescWord) (i : Instr), decode w = .ok i → encode i = w) ∧
  ∀ w : DescWord, (∃ e, decode w = .error e) ↔ ∀ i : Instr, i.handlerId ≠ w.extractLsb' 0 10

/-- R110, R118: one word of each family, its fields written out from the descriptor's layout (`addr` bits 143:80, `imm` 79:48, `rsvd`
47:41, `ilen` 40:37, `memform` 36, `zmask` 35, `opmask` 34:32, `vl` 31:30, `src3` 29:25, `src2` 24:20, `src1` 19:15, `dst` 14:10,
`handler` 9:0), decodes to the instruction it stands for. -/
def Obligations.WordsDecodeToTheirInstructions : Prop :=
  let word (id : Nat) : DescWord :=
    BitVec.ofNat 144 (0x1000 <<< 80 + 0x41 <<< 48 + 5 <<< 37 + 1 <<< 36 + 1 <<< 35 + 6 <<< 32 + 2 <<< 30 + 9 <<< 25 +
      8 <<< 20 + 7 <<< 15 + 3 <<< 10 + id)
  let d : Desc := ⟨3, 7, 8, 9, 2, 6, true, true, 5, 0, 0x41, 0x1000⟩
  decode (word 0x000) = .ok (.illegal d) ∧ decode (word 0x010) = .ok (.bt16G d) ∧
    decode (word 0x033) = .ok (.tzcnt64 d) ∧ decode (word 0x04B) = .ok (.bzhi64 d) ∧
    decode (word 0x070) = .ok (.t1mskc32 d) ∧ decode (word 0x0A8) = .ok (.pshufd d) ∧
    decode (word 0x12A) = .ok (.vpsllqI d) ∧ decode (word 0x18A) = .ok (.vpcompressd d) ∧
    decode (word 0x212) = .ok (.vpmacssdqh d) ∧ decode (word 0x216) = .error (.unassigned 0x216#10)
end

