-- ==== Sys2Proof/Laws/Lanes.lean ====
section
/-! SUPPORT. Lanes of packed values: what `packLanes` builds, bit by bit and element by element. -/

namespace Sys2Proof.Machine

theorem getLsbD_lowOnes (w n i : Nat) : (lowOnes w n).getLsbD i = (decide (i < w) && decide (i < n)) := by
  simp [lowOnes, BitVec.getLsbD_ofNat, Nat.testBit_two_pow_sub_one]

theorem getLsbD_lowBits (L : Nat) (v : Packed) (i : Nat) :
    (lowBits L v).getLsbD i = (v.getLsbD i && decide (i < L)) := by
  by_cases h : i < 512
  · rw [lowBits, BitVec.getLsbD_and, getLsbD_lowOnes, decide_eq_true h, Bool.true_and]
  · rw [BitVec.getLsbD_of_ge _ i (by omega), BitVec.getLsbD_of_ge _ i (by omega), Bool.false_and]

theorem getLsbD_highBits (L : Nat) (v : Packed) (i : Nat) :
    (highBits L v).getLsbD i = (v.getLsbD i && !decide (i < L)) := by
  by_cases h : i < 512
  · rw [highBits, BitVec.getLsbD_and, BitVec.getLsbD_not, getLsbD_lowOnes, decide_eq_true h, Bool.true_and,
      Bool.true_and]
  · rw [BitVec.getLsbD_of_ge _ i (by omega), BitVec.getLsbD_of_ge _ i (by omega), Bool.false_and]

theorem getLsbD_lane (w : Nat) (v : Packed) (i j : Nat) :
    (lane w v i).getLsbD j = (decide (j < w) && v.getLsbD (w * i + j)) := by
  simp [lane, BitVec.getLsbD_extractLsb']

/-- Bit `j` of a packed value is bit `j mod w` of its element `j div w`, and 0 above the elements. -/
theorem getLsbD_packLanes {w : Nat} (hw : 0 < w) (f : Nat → BitVec w) (n j : Nat) :
    (packLanes w f n).getLsbD j = (decide (j < w * n) && decide (j < 512) && (f (j / w)).getLsbD (j % w)) := by
  induction n with
  | zero => simp [packLanes]
  | succ n ih =>
    have hmul : w * (n + 1) = w * n + w := by ring
    simp only [packLanes, BitVec.getLsbD_or, ih, BitVec.getLsbD_shiftLeft, BitVec.getLsbD_setWidth]
    by_cases hj : j < 512
    · by_cases h1 : j < w * n
      · have : j < w * (n + 1) := by omega
        simp [h1, this, hj]
      · by_cases h2 : j < w * (n + 1)
        · have hd : j / w = n := by
            have : n ≤ j / w := (Nat.le_div_iff_mul_le hw).2 (by rw [Nat.mul_comm]; omega)
            have : j / w < n + 1 := Nat.div_lt_of_lt_mul (by omega)
            omega
          have hm : j % w = j - w * n := by
            have := Nat.div_add_mod j w
            rw [hd] at this; omega
          have h3 : j - w * n < 512 := by omega
          simp [h1, h2, hj, hd, hm, h3]
        · have h3 : w ≤ j - w * n := by omega
          simp [h1, h2, BitVec.getLsbD_of_ge _ _ h3]
    · simp [hj]

/-- Element `i` of a packed value. -/
theorem lane_packLanes {w : Nat} (hw : 0 < w) (f : Nat → BitVec w) {n i : Nat} (hi : i < n) (hn : w * n ≤ 512) :
    lane w (packLanes w f n) i = f i := by
  apply BitVec.eq_of_getLsbD_eq
  intro j hj
  have h1 : w * i + j < w * n := by
    have : w * (i + 1) ≤ w * n := Nat.mul_le_mul_left _ hi
    have : w * (i + 1) = w * i + w := by ring
    omega
  have h2 : (w * i + j) / w = i := by
    rw [Nat.add_comm, Nat.add_mul_div_left _ _ hw, Nat.div_eq_of_lt hj]; omega
  have h3 : (w * i + j) % w = j := by
    rw [Nat.add_comm, Nat.add_mul_mod_self_left, Nat.mod_eq_of_lt hj]
  rw [getLsbD_lane, getLsbD_packLanes hw]
  simp [hj, h1, h2, h3, show w * i + j < 512 by omega]

/-- Element `i` of the low bits of a packed value, where the whole element lies below `L`. -/
theorem lane_lowBits {w L : Nat} (v : Packed) {i : Nat} (h : w * i + w ≤ L) : lane w (lowBits L v) i = lane w v i := by
  apply BitVec.eq_of_getLsbD_eq
  intro j hj
  rw [getLsbD_lane, getLsbD_lane, getLsbD_lowBits, decide_eq_true (by omega : w * i + j < L), Bool.and_true]

/-- The bits of a packed value above its elements are 0. -/
theorem lowBits_packLanes {w L : Nat} (hw : 0 < w) (f : Nat → BitVec w) {n : Nat} (h : w * n ≤ L) :
    lowBits L (packLanes w f n) = packLanes w f n := by
  apply BitVec.eq_of_getLsbD_eq
  intro j hj
  rw [getLsbD_lowBits, getLsbD_packLanes hw]
  by_cases h1 : j < w * n
  · simp [show j < L by omega]
  · simp [h1]

theorem lowBits_lowBits (L : Nat) (v : Packed) : lowBits L (lowBits L v) = lowBits L v := by
  apply BitVec.eq_of_getLsbD_eq
  intro j hj
  rw [getLsbD_lowBits, getLsbD_lowBits, Bool.and_assoc, Bool.and_self]

/-- R170: the low part of a preserving write is the value, the high part the old register. -/
theorem getLsbD_merge (L : Nat) (old v : Packed) (j : Nat) :
    (highBits L old ||| lowBits L v).getLsbD j = if j < L then v.getLsbD j else old.getLsbD j := by
  rw [BitVec.getLsbD_or, getLsbD_highBits, getLsbD_lowBits]
  by_cases h : j < L <;> simp [h]

/-- Two packed values with the same elements of width `w`, `n` of them, and zeros above, are equal. -/
theorem packed_ext {w n : Nat} (hw : 0 < w) {a b : Packed} (ha : lowBits (w * n) a = a) (hb : lowBits (w * n) b = b)
    (h : ∀ i < n, lane w a i = lane w b i) : a = b := by
  rw [← ha, ← hb]
  apply BitVec.eq_of_getLsbD_eq
  intro j hj
  rw [getLsbD_lowBits, getLsbD_lowBits]
  by_cases hjn : j < w * n
  · have hi : j / w < n := Nat.div_lt_of_lt_mul hjn
    have := congrArg (fun x => BitVec.getLsbD x (j % w)) (h (j / w) hi)
    simp only [getLsbD_lane, Nat.mod_lt j hw, decide_true, Bool.true_and, Nat.div_add_mod] at this
    rw [this]
  · simp [hjn]

/-- R160: element `i` of `map2_w`. -/
theorem lane_map2 {w L : Nat} (hw : 0 < w) (f : BitVec w → BitVec w → BitVec w) (a b : Packed) {i : Nat}
    (hi : i < L / w) (hL : L ≤ 512) : lane w (map2 w f L a b) i = f (lane w a i) (lane w b i) :=
  lane_packLanes hw _ hi (le_trans (Nat.mul_div_le L w) hL)

/-- R160: element `i` of `map1_w`. -/
theorem lane_map1 {w L : Nat} (hw : 0 < w) (f : BitVec w → BitVec w) (a : Packed) {i : Nat}
    (hi : i < L / w) (hL : L ≤ 512) : lane w (map1 w f L a) i = f (lane w a i) :=
  lane_packLanes hw _ hi (le_trans (Nat.mul_div_le L w) hL)

/-- R173: element `i` of a zero-masked value. -/
theorem lane_zeroMasked {w L : Nat} (hw : 0 < w) (up : MergeUpper) (k : Word) (res old : Packed) {i : Nat}
    (hi : i < L / w) (hL : L ≤ 512) :
    lane w (maskedValue up .zeroMasked w L k res old) i = if k.getLsbD i then lane w res i else 0#w :=
  lane_packLanes hw _ hi (le_trans (Nat.mul_div_le L w) hL)

end Sys2Proof.Machine
end

