-- ==== Sys2Proof/Laws/Memory.lean ====
section
/-! SUPPORT. Memory: the canonical form is kept by every operation, and a read after a write. -/

namespace Sys2Proof.Machine

theorem Memory.read_erase (m : List Host.Cell) (a b : Nat) :
    Memory.read (Memory.erase m a) b = if a = b then unlistedByte else Memory.read m b := by
  induction m with
  | nil => simp [Memory.erase, Memory.read]
  | cons c m ih =>
    by_cases hc : c.1 = a
    · have : Memory.erase (c :: m) a = Memory.erase m a := by simp [Memory.erase, hc]
      rw [this, ih]
      by_cases hab : a = b
      · simp [hab]
      · simp [Memory.read, hab, hc]
    · have : Memory.erase (c :: m) a = c :: Memory.erase m a := by simp [Memory.erase, hc]
      rw [this, Memory.read, ih, Memory.read]
      by_cases hab : a = b
      · subst hab; simp [hc]
      · simp [hab]

theorem Memory.read_insert (m : List Host.Cell) (a b : Nat) (x : Byte) (h : ∀ c ∈ m, c.1 ≠ a) :
    Memory.read (Memory.insert a x m) b = if a = b then x else Memory.read m b := by
  induction m with
  | nil => simp [Memory.insert, Memory.read]
  | cons c m ih =>
    simp only [Memory.insert]
    split
    · simp [Memory.read]
    · have hc : c.1 ≠ a := h c (by simp)
      rw [Memory.read, ih fun c hc => h c (by simp [hc]), Memory.read]
      by_cases hab : a = b
      · subst hab; simp [hc]
      · simp [hab]

theorem Memory.erase_ne (m : List Host.Cell) (a : Nat) : ∀ c ∈ Memory.erase m a, c.1 ≠ a := by
  simp [Memory.erase]

/-- A read after a write: the written address reads the byte written, every other address reads as before. -/
theorem Memory.read_write (m : List Host.Cell) (a b : Nat) (x : Byte) :
    Memory.read (Memory.write m a x) b = if a = b then x else Memory.read m b := by
  unfold Memory.write
  split
  · rename_i h; rw [Memory.read_erase, h]
  · rw [Memory.read_insert _ _ _ _ (Memory.erase_ne m a), Memory.read_erase]
    split <;> rfl

theorem Memory.wf_nil : Memory.wf [] := by simp [Memory.wf]

theorem Memory.wf_erase {m : List Host.Cell} (h : Memory.wf m) (a : Nat) : Memory.wf (Memory.erase m a) :=
  ⟨h.1.filter _, fun p hp => h.2 p (List.mem_of_mem_filter hp)⟩

theorem Memory.mem_insert {m : List Host.Cell} {a : Nat} {x : Byte} {p : Host.Cell} :
    p ∈ Memory.insert a x m ↔ p = (a, x) ∨ p ∈ m := by
  induction m with
  | nil => simp [Memory.insert]
  | cons c m ih =>
    simp only [Memory.insert]
    split
    · simp
    · simp only [List.mem_cons, ih]; tauto

theorem Memory.pairwise_insert {m : List Host.Cell} (h : m.Pairwise (fun p q => p.1 < q.1)) (a : Nat) (x : Byte)
    (hne : ∀ c ∈ m, c.1 ≠ a) : (Memory.insert a x m).Pairwise (fun p q => p.1 < q.1) := by
  induction m with
  | nil => simp [Memory.insert]
  | cons c m ih =>
    rw [List.pairwise_cons] at h
    simp only [Memory.insert]
    split
    · rename_i hac
      refine List.pairwise_cons.2 ⟨fun p hp => ?_, List.pairwise_cons.2 h⟩
      rcases List.mem_cons.1 hp with rfl | hp
      · exact hac
      · exact hac.trans (h.1 p hp)
    · rename_i hac
      refine List.pairwise_cons.2 ⟨fun p hp => ?_, ih h.2 fun c hc => hne c (by simp [hc])⟩
      rcases Memory.mem_insert.1 hp with rfl | hp
      · have := hne c (by simp); simp only; omega
      · exact h.1 p hp

/-- Storing a byte keeps the canonical form. -/
theorem Memory.wf_write {m : List Host.Cell} (h : Memory.wf m) {a : Nat} (ha : a < 2 ^ 64) (x : Byte) :
    Memory.wf (Memory.write m a x) := by
  unfold Memory.write
  split
  · exact Memory.wf_erase h a
  · rename_i hx
    have he := Memory.wf_erase h a
    refine ⟨Memory.pairwise_insert he.1 a x (Memory.erase_ne m a), fun p hp => ?_⟩
    rcases Memory.mem_insert.1 hp with rfl | hp
    · exact ⟨hx, ha⟩
    · exact he.2 p hp

theorem byteAddr_lt (a : Word) (i : Nat) : byteAddr a i < 2 ^ 64 := BitVec.isLt _

/-- Storing bytes keeps the canonical form. -/
theorem Memory.wf_writeBytes {m : List Host.Cell} (h : Memory.wf m) (a : Word) (v : Packed) (n : Nat) :
    Memory.wf (Memory.writeBytes m a v n) := by
  induction n with
  | zero => exact h
  | succ n ih => exact Memory.wf_write ih (byteAddr_lt a n) _

/-- Distinct bytes of one access have distinct addresses. -/
theorem byteAddr_inj {a : Word} {i j : Nat} (hi : i < 2 ^ 64) (hj : j < 2 ^ 64) (h : byteAddr a i = byteAddr a j) :
    i = j := by
  have h := BitVec.eq_of_toNat_eq h
  have h : BitVec.ofNat 64 i = BitVec.ofNat 64 j := by simpa using h
  have := congrArg BitVec.toNat h
  simp only [BitVec.toNat_ofNat] at this
  omega

/-- A byte outside the stored ones reads as before. -/
theorem Memory.read_writeBytes_of_ne (m : List Host.Cell) (a : Word) (v : Packed) (n b : Nat)
    (h : ∀ i < n, byteAddr a i ≠ b) : Memory.read (Memory.writeBytes m a v n) b = Memory.read m b := by
  induction n with
  | zero => rfl
  | succ n ih =>
    rw [Memory.writeBytes, Memory.read_write, if_neg (h n (by omega)), ih fun i hi => h i (by omega)]

/-- Each stored byte reads the byte of the value stored there. -/
theorem Memory.read_writeBytes (m : List Host.Cell) (a : Word) (v : Packed) {n i : Nat} (hn : n ≤ 2 ^ 64) (hi : i < n) :
    Memory.read (Memory.writeBytes m a v n) (byteAddr a i) = lane 8 v i := by
  induction n with
  | zero => omega
  | succ n ih =>
    rw [Memory.writeBytes, Memory.read_write]
    split
    · rename_i h
      have := byteAddr_inj (by omega) (by omega) h
      rw [this]
    · rename_i h
      have : i ≠ n := fun e => h (by rw [e])
      exact ih (by omega) (by omega)

end Sys2Proof.Machine
end

