-- ==== Sys2Proof/Laws/State.lean ====
section
/-! SUPPORT. One lemma per field per update of the state: no later proof unfolds a record update. -/

namespace Sys2Proof.Machine

/-! `setGpr` -/

@[simp] theorem State.setGpr_cfg (s : State) (i : Nat) (x : Word) : (s.setGpr i x).cfg = s.cfg := rfl
@[simp] theorem State.setGpr_below (s : State) (i : Nat) (x : Word) : (s.setGpr i x).below = s.below := rfl
@[simp] theorem State.setGpr_above (s : State) (i : Nat) (x : Word) : (s.setGpr i x).above = s.above := rfl
@[simp] theorem State.setGpr_mem (s : State) (i : Nat) (x : Word) : (s.setGpr i x).mem = s.mem := rfl
@[simp] theorem State.setGpr_memFaults (s : State) (i : Nat) (x : Word) : (s.setGpr i x).memFaults = s.memFaults := rfl
@[simp] theorem State.setGpr_now (s : State) (i : Nat) (x : Word) : (s.setGpr i x).now = s.now := rfl
@[simp] theorem State.setGpr_inputs (s : State) (i : Nat) (x : Word) : (s.setGpr i x).inputs = s.inputs := rfl
@[simp] theorem State.setGpr_trace (s : State) (i : Nat) (x : Word) : (s.setGpr i x).trace = s.trace := rfl
@[simp] theorem State.setGpr_draws (s : State) (i : Nat) (x : Word) : (s.setGpr i x).draws = s.draws := rfl
@[simp] theorem State.setGpr_lapic (s : State) (i : Nat) (x : Word) : (s.setGpr i x).cpu.lapic = s.cpu.lapic := rfl
@[simp] theorem State.setGpr_features (s : State) (i : Nat) (x : Word) : (s.setGpr i x).cpu.features = s.cpu.features := rfl
@[simp] theorem State.setGpr_apicId0 (s : State) (i : Nat) (x : Word) : (s.setGpr i x).cpu.apicId0 = s.cpu.apicId0 := rfl
@[simp] theorem State.setGpr_vregs (s : State) (i : Nat) (x : Word) : (s.setGpr i x).cpu.ee.v = s.cpu.ee.v := rfl
@[simp] theorem State.setGpr_kregs (s : State) (i : Nat) (x : Word) : (s.setGpr i x).cpu.ee.k = s.cpu.ee.k := rfl
@[simp] theorem State.setGpr_rflagsReg (s : State) (i : Nat) (x : Word) : (s.setGpr i x).cpu.ee.rflags = s.cpu.ee.rflags := rfl
@[simp] theorem State.setGpr_ripReg (s : State) (i : Nat) (x : Word) : (s.setGpr i x).cpu.ee.rip = s.cpu.ee.rip := rfl
@[simp] theorem State.setGpr_vreg (s : State) (i : Nat) (x : Word) (j : Nat) : (s.setGpr i x).vreg j = s.vreg j := rfl
@[simp] theorem State.setGpr_kreg (s : State) (i : Nat) (x : Word) (j : Nat) : (s.setGpr i x).kreg j = s.kreg j := rfl
@[simp] theorem State.setGpr_rflags (s : State) (i : Nat) (x : Word) : (s.setGpr i x).rflags = s.rflags := rfl
@[simp] theorem State.setGpr_rip (s : State) (i : Nat) (x : Word) : (s.setGpr i x).rip = s.rip := rfl
@[simp] theorem State.setGpr_focus (s : State) (i : Nat) (x : Word) : (s.setGpr i x).focus = s.focus := rfl

/-! `setVreg` -/

@[simp] theorem State.setVreg_cfg (s : State) (r : Nat) (x : Packed) : (s.setVreg r x).cfg = s.cfg := rfl
@[simp] theorem State.setVreg_below (s : State) (r : Nat) (x : Packed) : (s.setVreg r x).below = s.below := rfl
@[simp] theorem State.setVreg_above (s : State) (r : Nat) (x : Packed) : (s.setVreg r x).above = s.above := rfl
@[simp] theorem State.setVreg_mem (s : State) (r : Nat) (x : Packed) : (s.setVreg r x).mem = s.mem := rfl
@[simp] theorem State.setVreg_memFaults (s : State) (r : Nat) (x : Packed) : (s.setVreg r x).memFaults = s.memFaults := rfl
@[simp] theorem State.setVreg_now (s : State) (r : Nat) (x : Packed) : (s.setVreg r x).now = s.now := rfl
@[simp] theorem State.setVreg_inputs (s : State) (r : Nat) (x : Packed) : (s.setVreg r x).inputs = s.inputs := rfl
@[simp] theorem State.setVreg_trace (s : State) (r : Nat) (x : Packed) : (s.setVreg r x).trace = s.trace := rfl
@[simp] theorem State.setVreg_draws (s : State) (r : Nat) (x : Packed) : (s.setVreg r x).draws = s.draws := rfl
@[simp] theorem State.setVreg_lapic (s : State) (r : Nat) (x : Packed) : (s.setVreg r x).cpu.lapic = s.cpu.lapic := rfl
@[simp] theorem State.setVreg_features (s : State) (r : Nat) (x : Packed) : (s.setVreg r x).cpu.features = s.cpu.features := rfl
@[simp] theorem State.setVreg_apicId0 (s : State) (r : Nat) (x : Packed) : (s.setVreg r x).cpu.apicId0 = s.cpu.apicId0 := rfl
@[simp] theorem State.setVreg_gprs (s : State) (r : Nat) (x : Packed) : (s.setVreg r x).cpu.ee.gpr = s.cpu.ee.gpr := rfl
@[simp] theorem State.setVreg_kregs (s : State) (r : Nat) (x : Packed) : (s.setVreg r x).cpu.ee.k = s.cpu.ee.k := rfl
@[simp] theorem State.setVreg_rflagsReg (s : State) (r : Nat) (x : Packed) : (s.setVreg r x).cpu.ee.rflags = s.cpu.ee.rflags := rfl
@[simp] theorem State.setVreg_ripReg (s : State) (r : Nat) (x : Packed) : (s.setVreg r x).cpu.ee.rip = s.cpu.ee.rip := rfl
@[simp] theorem State.setVreg_gpr (s : State) (r : Nat) (x : Packed) (j : Nat) : (s.setVreg r x).gpr j = s.gpr j := rfl
@[simp] theorem State.setVreg_kreg (s : State) (r : Nat) (x : Packed) (j : Nat) : (s.setVreg r x).kreg j = s.kreg j := rfl
@[simp] theorem State.setVreg_rflags (s : State) (r : Nat) (x : Packed) : (s.setVreg r x).rflags = s.rflags := rfl
@[simp] theorem State.setVreg_rip (s : State) (r : Nat) (x : Packed) : (s.setVreg r x).rip = s.rip := rfl
@[simp] theorem State.setVreg_focus (s : State) (r : Nat) (x : Packed) : (s.setVreg r x).focus = s.focus := rfl

/-! `setKreg` -/

@[simp] theorem State.setKreg_cfg (s : State) (k : Nat) (x : Word) : (s.setKreg k x).cfg = s.cfg := rfl
@[simp] theorem State.setKreg_below (s : State) (k : Nat) (x : Word) : (s.setKreg k x).below = s.below := rfl
@[simp] theorem State.setKreg_above (s : State) (k : Nat) (x : Word) : (s.setKreg k x).above = s.above := rfl
@[simp] theorem State.setKreg_mem (s : State) (k : Nat) (x : Word) : (s.setKreg k x).mem = s.mem := rfl
@[simp] theorem State.setKreg_memFaults (s : State) (k : Nat) (x : Word) : (s.setKreg k x).memFaults = s.memFaults := rfl
@[simp] theorem State.setKreg_now (s : State) (k : Nat) (x : Word) : (s.setKreg k x).now = s.now := rfl
@[simp] theorem State.setKreg_inputs (s : State) (k : Nat) (x : Word) : (s.setKreg k x).inputs = s.inputs := rfl
@[simp] theorem State.setKreg_trace (s : State) (k : Nat) (x : Word) : (s.setKreg k x).trace = s.trace := rfl
@[simp] theorem State.setKreg_draws (s : State) (k : Nat) (x : Word) : (s.setKreg k x).draws = s.draws := rfl
@[simp] theorem State.setKreg_lapic (s : State) (k : Nat) (x : Word) : (s.setKreg k x).cpu.lapic = s.cpu.lapic := rfl
@[simp] theorem State.setKreg_features (s : State) (k : Nat) (x : Word) : (s.setKreg k x).cpu.features = s.cpu.features := rfl
@[simp] theorem State.setKreg_apicId0 (s : State) (k : Nat) (x : Word) : (s.setKreg k x).cpu.apicId0 = s.cpu.apicId0 := rfl
@[simp] theorem State.setKreg_gprs (s : State) (k : Nat) (x : Word) : (s.setKreg k x).cpu.ee.gpr = s.cpu.ee.gpr := rfl
@[simp] theorem State.setKreg_vregs (s : State) (k : Nat) (x : Word) : (s.setKreg k x).cpu.ee.v = s.cpu.ee.v := rfl
@[simp] theorem State.setKreg_rflagsReg (s : State) (k : Nat) (x : Word) : (s.setKreg k x).cpu.ee.rflags = s.cpu.ee.rflags := rfl
@[simp] theorem State.setKreg_ripReg (s : State) (k : Nat) (x : Word) : (s.setKreg k x).cpu.ee.rip = s.cpu.ee.rip := rfl
@[simp] theorem State.setKreg_gpr (s : State) (k : Nat) (x : Word) (j : Nat) : (s.setKreg k x).gpr j = s.gpr j := rfl
@[simp] theorem State.setKreg_vreg (s : State) (k : Nat) (x : Word) (j : Nat) : (s.setKreg k x).vreg j = s.vreg j := rfl
@[simp] theorem State.setKreg_rflags (s : State) (k : Nat) (x : Word) : (s.setKreg k x).rflags = s.rflags := rfl
@[simp] theorem State.setKreg_rip (s : State) (k : Nat) (x : Word) : (s.setKreg k x).rip = s.rip := rfl
@[simp] theorem State.setKreg_focus (s : State) (k : Nat) (x : Word) : (s.setKreg k x).focus = s.focus := rfl

/-! `setRflags` -/

@[simp] theorem State.setRflags_cfg (s : State) (x : Word) : (s.setRflags x).cfg = s.cfg := rfl
@[simp] theorem State.setRflags_below (s : State) (x : Word) : (s.setRflags x).below = s.below := rfl
@[simp] theorem State.setRflags_above (s : State) (x : Word) : (s.setRflags x).above = s.above := rfl
@[simp] theorem State.setRflags_mem (s : State) (x : Word) : (s.setRflags x).mem = s.mem := rfl
@[simp] theorem State.setRflags_memFaults (s : State) (x : Word) : (s.setRflags x).memFaults = s.memFaults := rfl
@[simp] theorem State.setRflags_now (s : State) (x : Word) : (s.setRflags x).now = s.now := rfl
@[simp] theorem State.setRflags_inputs (s : State) (x : Word) : (s.setRflags x).inputs = s.inputs := rfl
@[simp] theorem State.setRflags_trace (s : State) (x : Word) : (s.setRflags x).trace = s.trace := rfl
@[simp] theorem State.setRflags_draws (s : State) (x : Word) : (s.setRflags x).draws = s.draws := rfl
@[simp] theorem State.setRflags_lapic (s : State) (x : Word) : (s.setRflags x).cpu.lapic = s.cpu.lapic := rfl
@[simp] theorem State.setRflags_features (s : State) (x : Word) : (s.setRflags x).cpu.features = s.cpu.features := rfl
@[simp] theorem State.setRflags_apicId0 (s : State) (x : Word) : (s.setRflags x).cpu.apicId0 = s.cpu.apicId0 := rfl
@[simp] theorem State.setRflags_gprs (s : State) (x : Word) : (s.setRflags x).cpu.ee.gpr = s.cpu.ee.gpr := rfl
@[simp] theorem State.setRflags_vregs (s : State) (x : Word) : (s.setRflags x).cpu.ee.v = s.cpu.ee.v := rfl
@[simp] theorem State.setRflags_kregs (s : State) (x : Word) : (s.setRflags x).cpu.ee.k = s.cpu.ee.k := rfl
@[simp] theorem State.setRflags_ripReg (s : State) (x : Word) : (s.setRflags x).cpu.ee.rip = s.cpu.ee.rip := rfl
@[simp] theorem State.setRflags_gpr (s : State) (x : Word) (j : Nat) : (s.setRflags x).gpr j = s.gpr j := rfl
@[simp] theorem State.setRflags_vreg (s : State) (x : Word) (j : Nat) : (s.setRflags x).vreg j = s.vreg j := rfl
@[simp] theorem State.setRflags_kreg (s : State) (x : Word) (j : Nat) : (s.setRflags x).kreg j = s.kreg j := rfl
@[simp] theorem State.setRflags_rip (s : State) (x : Word) : (s.setRflags x).rip = s.rip := rfl
@[simp] theorem State.setRflags_focus (s : State) (x : Word) : (s.setRflags x).focus = s.focus := rfl

/-! `advance` -/

@[simp] theorem State.advance_cfg (s : State) (n : BitVec 4) : (s.advance n).cfg = s.cfg := rfl
@[simp] theorem State.advance_below (s : State) (n : BitVec 4) : (s.advance n).below = s.below := rfl
@[simp] theorem State.advance_above (s : State) (n : BitVec 4) : (s.advance n).above = s.above := rfl
@[simp] theorem State.advance_mem (s : State) (n : BitVec 4) : (s.advance n).mem = s.mem := rfl
@[simp] theorem State.advance_memFaults (s : State) (n : BitVec 4) : (s.advance n).memFaults = s.memFaults := rfl
@[simp] theorem State.advance_now (s : State) (n : BitVec 4) : (s.advance n).now = s.now := rfl
@[simp] theorem State.advance_inputs (s : State) (n : BitVec 4) : (s.advance n).inputs = s.inputs := rfl
@[simp] theorem State.advance_trace (s : State) (n : BitVec 4) : (s.advance n).trace = s.trace := rfl
@[simp] theorem State.advance_draws (s : State) (n : BitVec 4) : (s.advance n).draws = s.draws := rfl
@[simp] theorem State.advance_lapic (s : State) (n : BitVec 4) : (s.advance n).cpu.lapic = s.cpu.lapic := rfl
@[simp] theorem State.advance_features (s : State) (n : BitVec 4) : (s.advance n).cpu.features = s.cpu.features := rfl
@[simp] theorem State.advance_apicId0 (s : State) (n : BitVec 4) : (s.advance n).cpu.apicId0 = s.cpu.apicId0 := rfl
@[simp] theorem State.advance_gprs (s : State) (n : BitVec 4) : (s.advance n).cpu.ee.gpr = s.cpu.ee.gpr := rfl
@[simp] theorem State.advance_vregs (s : State) (n : BitVec 4) : (s.advance n).cpu.ee.v = s.cpu.ee.v := rfl
@[simp] theorem State.advance_kregs (s : State) (n : BitVec 4) : (s.advance n).cpu.ee.k = s.cpu.ee.k := rfl
@[simp] theorem State.advance_rflagsReg (s : State) (n : BitVec 4) : (s.advance n).cpu.ee.rflags = s.cpu.ee.rflags := rfl
@[simp] theorem State.advance_gpr (s : State) (n : BitVec 4) (j : Nat) : (s.advance n).gpr j = s.gpr j := rfl
@[simp] theorem State.advance_vreg (s : State) (n : BitVec 4) (j : Nat) : (s.advance n).vreg j = s.vreg j := rfl
@[simp] theorem State.advance_kreg (s : State) (n : BitVec 4) (j : Nat) : (s.advance n).kreg j = s.kreg j := rfl
@[simp] theorem State.advance_rflags (s : State) (n : BitVec 4) : (s.advance n).rflags = s.rflags := rfl
@[simp] theorem State.advance_focus (s : State) (n : BitVec 4) : (s.advance n).focus = s.focus := rfl

/-! `putLapic` -/

@[simp] theorem State.putLapic_cfg (s : State) (r : LapicEff) : (s.putLapic r).cfg = s.cfg := rfl
@[simp] theorem State.putLapic_below (s : State) (r : LapicEff) : (s.putLapic r).below = s.below := rfl
@[simp] theorem State.putLapic_above (s : State) (r : LapicEff) : (s.putLapic r).above = s.above := rfl
@[simp] theorem State.putLapic_mem (s : State) (r : LapicEff) : (s.putLapic r).mem = s.mem := rfl
@[simp] theorem State.putLapic_memFaults (s : State) (r : LapicEff) : (s.putLapic r).memFaults = s.memFaults := rfl
@[simp] theorem State.putLapic_now (s : State) (r : LapicEff) : (s.putLapic r).now = s.now := rfl
@[simp] theorem State.putLapic_inputs (s : State) (r : LapicEff) : (s.putLapic r).inputs = s.inputs := rfl
@[simp] theorem State.putLapic_draws (s : State) (r : LapicEff) : (s.putLapic r).draws = s.draws := rfl
@[simp] theorem State.putLapic_features (s : State) (r : LapicEff) : (s.putLapic r).cpu.features = s.cpu.features := rfl
@[simp] theorem State.putLapic_apicId0 (s : State) (r : LapicEff) : (s.putLapic r).cpu.apicId0 = s.cpu.apicId0 := rfl
@[simp] theorem State.putLapic_gprs (s : State) (r : LapicEff) : (s.putLapic r).cpu.ee.gpr = s.cpu.ee.gpr := rfl
@[simp] theorem State.putLapic_vregs (s : State) (r : LapicEff) : (s.putLapic r).cpu.ee.v = s.cpu.ee.v := rfl
@[simp] theorem State.putLapic_kregs (s : State) (r : LapicEff) : (s.putLapic r).cpu.ee.k = s.cpu.ee.k := rfl
@[simp] theorem State.putLapic_rflagsReg (s : State) (r : LapicEff) : (s.putLapic r).cpu.ee.rflags = s.cpu.ee.rflags := rfl
@[simp] theorem State.putLapic_ripReg (s : State) (r : LapicEff) : (s.putLapic r).cpu.ee.rip = s.cpu.ee.rip := rfl
@[simp] theorem State.putLapic_gpr (s : State) (r : LapicEff) (j : Nat) : (s.putLapic r).gpr j = s.gpr j := rfl
@[simp] theorem State.putLapic_vreg (s : State) (r : LapicEff) (j : Nat) : (s.putLapic r).vreg j = s.vreg j := rfl
@[simp] theorem State.putLapic_kreg (s : State) (r : LapicEff) (j : Nat) : (s.putLapic r).kreg j = s.kreg j := rfl
@[simp] theorem State.putLapic_rflags (s : State) (r : LapicEff) : (s.putLapic r).rflags = s.rflags := rfl
@[simp] theorem State.putLapic_rip (s : State) (r : LapicEff) : (s.putLapic r).rip = s.rip := rfl
@[simp] theorem State.putLapic_focus (s : State) (r : LapicEff) : (s.putLapic r).focus = s.focus := rfl

/-! `raise` -/

@[simp] theorem State.raise_cfg (s : State) (g : FaultSignal) : (s.raise g).cfg = s.cfg := rfl
@[simp] theorem State.raise_below (s : State) (g : FaultSignal) : (s.raise g).below = s.below := rfl
@[simp] theorem State.raise_above (s : State) (g : FaultSignal) : (s.raise g).above = s.above := rfl
@[simp] theorem State.raise_mem (s : State) (g : FaultSignal) : (s.raise g).mem = s.mem := rfl
@[simp] theorem State.raise_memFaults (s : State) (g : FaultSignal) : (s.raise g).memFaults = s.memFaults := rfl
@[simp] theorem State.raise_now (s : State) (g : FaultSignal) : (s.raise g).now = s.now := rfl
@[simp] theorem State.raise_inputs (s : State) (g : FaultSignal) : (s.raise g).inputs = s.inputs := rfl
@[simp] theorem State.raise_draws (s : State) (g : FaultSignal) : (s.raise g).draws = s.draws := rfl
@[simp] theorem State.raise_lapic (s : State) (g : FaultSignal) : (s.raise g).cpu.lapic = s.cpu.lapic := rfl
@[simp] theorem State.raise_features (s : State) (g : FaultSignal) : (s.raise g).cpu.features = s.cpu.features := rfl
@[simp] theorem State.raise_apicId0 (s : State) (g : FaultSignal) : (s.raise g).cpu.apicId0 = s.cpu.apicId0 := rfl
@[simp] theorem State.raise_gprs (s : State) (g : FaultSignal) : (s.raise g).cpu.ee.gpr = s.cpu.ee.gpr := rfl
@[simp] theorem State.raise_vregs (s : State) (g : FaultSignal) : (s.raise g).cpu.ee.v = s.cpu.ee.v := rfl
@[simp] theorem State.raise_kregs (s : State) (g : FaultSignal) : (s.raise g).cpu.ee.k = s.cpu.ee.k := rfl
@[simp] theorem State.raise_rflagsReg (s : State) (g : FaultSignal) : (s.raise g).cpu.ee.rflags = s.cpu.ee.rflags := rfl
@[simp] theorem State.raise_ripReg (s : State) (g : FaultSignal) : (s.raise g).cpu.ee.rip = s.cpu.ee.rip := rfl
@[simp] theorem State.raise_gpr (s : State) (g : FaultSignal) (j : Nat) : (s.raise g).gpr j = s.gpr j := rfl
@[simp] theorem State.raise_vreg (s : State) (g : FaultSignal) (j : Nat) : (s.raise g).vreg j = s.vreg j := rfl
@[simp] theorem State.raise_kreg (s : State) (g : FaultSignal) (j : Nat) : (s.raise g).kreg j = s.kreg j := rfl
@[simp] theorem State.raise_rflags (s : State) (g : FaultSignal) : (s.raise g).rflags = s.rflags := rfl
@[simp] theorem State.raise_rip (s : State) (g : FaultSignal) : (s.raise g).rip = s.rip := rfl
@[simp] theorem State.raise_focus (s : State) (g : FaultSignal) : (s.raise g).focus = s.focus := rfl

/-! `output` -/

@[simp] theorem State.output_cfg (s : State) (o : Output) : (s.output o).cfg = s.cfg := rfl
@[simp] theorem State.output_below (s : State) (o : Output) : (s.output o).below = s.below := rfl
@[simp] theorem State.output_above (s : State) (o : Output) : (s.output o).above = s.above := rfl
@[simp] theorem State.output_mem (s : State) (o : Output) : (s.output o).mem = s.mem := rfl
@[simp] theorem State.output_memFaults (s : State) (o : Output) : (s.output o).memFaults = s.memFaults := rfl
@[simp] theorem State.output_now (s : State) (o : Output) : (s.output o).now = s.now := rfl
@[simp] theorem State.output_inputs (s : State) (o : Output) : (s.output o).inputs = s.inputs := rfl
@[simp] theorem State.output_draws (s : State) (o : Output) : (s.output o).draws = s.draws := rfl
@[simp] theorem State.output_lapic (s : State) (o : Output) : (s.output o).cpu.lapic = s.cpu.lapic := rfl
@[simp] theorem State.output_features (s : State) (o : Output) : (s.output o).cpu.features = s.cpu.features := rfl
@[simp] theorem State.output_apicId0 (s : State) (o : Output) : (s.output o).cpu.apicId0 = s.cpu.apicId0 := rfl
@[simp] theorem State.output_gprs (s : State) (o : Output) : (s.output o).cpu.ee.gpr = s.cpu.ee.gpr := rfl
@[simp] theorem State.output_vregs (s : State) (o : Output) : (s.output o).cpu.ee.v = s.cpu.ee.v := rfl
@[simp] theorem State.output_kregs (s : State) (o : Output) : (s.output o).cpu.ee.k = s.cpu.ee.k := rfl
@[simp] theorem State.output_rflagsReg (s : State) (o : Output) : (s.output o).cpu.ee.rflags = s.cpu.ee.rflags := rfl
@[simp] theorem State.output_ripReg (s : State) (o : Output) : (s.output o).cpu.ee.rip = s.cpu.ee.rip := rfl
@[simp] theorem State.output_gpr (s : State) (o : Output) (j : Nat) : (s.output o).gpr j = s.gpr j := rfl
@[simp] theorem State.output_vreg (s : State) (o : Output) (j : Nat) : (s.output o).vreg j = s.vreg j := rfl
@[simp] theorem State.output_kreg (s : State) (o : Output) (j : Nat) : (s.output o).kreg j = s.kreg j := rfl
@[simp] theorem State.output_rflags (s : State) (o : Output) : (s.output o).rflags = s.rflags := rfl
@[simp] theorem State.output_rip (s : State) (o : Output) : (s.output o).rip = s.rip := rfl
@[simp] theorem State.output_focus (s : State) (o : Output) : (s.output o).focus = s.focus := rfl

/-! What each update writes. -/

@[simp] theorem State.setRflags_rflags (s : State) (x : Word) : (s.setRflags x).rflags = x := rfl
@[simp] theorem State.advance_rip (s : State) (n : BitVec 4) : (s.advance n).rip = s.rip + n.setWidth 64 := rfl
@[simp] theorem State.putLapic_lapic (s : State) (r : LapicEff) : (s.putLapic r).cpu.lapic = r.1 := rfl
@[simp] theorem State.putLapic_trace (s : State) (r : LapicEff) :
    (s.putLapic r).trace = s.trace ++ r.2.map (Output.lapic s.focus) := rfl
@[simp] theorem State.raise_trace (s : State) (g : FaultSignal) :
    (s.raise g).trace = s.trace ++ [.fault s.focus g] := rfl
@[simp] theorem State.output_trace (s : State) (o : Output) : (s.output o).trace = s.trace ++ [o] := rfl
@[simp] theorem State.raise_cpu (s : State) (g : FaultSignal) : (s.raise g).cpu = s.cpu := rfl
@[simp] theorem State.output_cpu (s : State) (o : Output) : (s.output o).cpu = s.cpu := rfl

/-- A general register reads what was last written to it, and the others are unchanged. -/
theorem State.gpr_setGpr (s : State) (i j : Nat) (x : Word) :
    (s.setGpr i x).gpr j = if i % 16 = j % 16 then x else s.gpr j := by
  simp [State.gpr, State.setGpr, Vector.getElem_set]

/-- A vector register reads what was last written to it, and the others are unchanged. -/
theorem State.vreg_setVreg (s : State) (i j : Nat) (x : Packed) :
    (s.setVreg i x).vreg j = if i % 32 = j % 32 then x else s.vreg j := by
  simp [State.vreg, State.setVreg, Vector.getElem_set]

/-- An opmask register reads what was last written to it, and the others are unchanged. -/
theorem State.kreg_setKreg (s : State) (i j : Nat) (x : Word) :
    (s.setKreg i x).kreg j = if i % 8 = j % 8 then x else s.kreg j := by
  simp [State.kreg, State.setKreg, Vector.getElem_set]

/-- A word of a bitmap reads what was last written to it, and the others are unchanged. -/
theorem bmWord_bmSetWord (m : Bitmap) (i j : Nat) (x : BitVec 32) :
    bmWord (bmSetWord m i x) j = if i % 8 = j % 8 then x else bmWord m j := by
  simp [bmWord, bmSetWord, Vector.getElem_set]

end Sys2Proof.Machine
end

