-- ==== Sys2Proof/Laws/Ops.lean ====
section
/-! SUPPORT. What each shared operation can do, once: the provers cite these and do not unfold the operations. -/

namespace Sys2Proof.Machine

/-! The handler contract. -/

@[simp] theorem Access.bind_ok {α β : Type} (v : α) (s : State) (f : α → State → Access β) :
    (Access.ok v s).bind f = f v s := rfl
@[simp] theorem Access.bind_raised {α β : Type} (g : FaultSignal) (s : State) (f : α → State → Access β) :
    (Access.raised g s : Access α).bind f = .raised g s := rfl
@[simp] theorem Access.bind_stopped {α β : Type} (i : Invariant) (f : α → State → Access β) :
    (Access.stopped i : Access α).bind f = .stopped i := rfl
@[simp] theorem Access.map_ok {α β : Type} (f : α → β) (v : α) (s : State) :
    (Access.ok v s).map f = .ok (f v) s := rfl
@[simp] theorem Access.finish_ok (d : Desc) (s : State) :
    (Access.ok () s).finish d = .next (s.advance d.ilen) := rfl
@[simp] theorem Access.finish_raised (d : Desc) (g : FaultSignal) (s : State) :
    (Access.raised g s).finish d = .next (s.raise g) := rfl

/-- A sequence that ends well is two that do. -/
theorem Access.bind_eq_ok {α β : Type} {r : Access α} {f : α → State → Access β} {b : β} {t : State} :
    r.bind f = .ok b t ↔ ∃ v s, r = .ok v s ∧ f v s = .ok b t := by
  cases r <;> simp [Access.bind]

/-- A reading part ends well as it does, and raises a signal with nothing changed. -/
theorem Access.undone_eq_ok {α : Type} {s t : State} {r : Access α} {v : α} : r.undone s = .ok v t ↔ r = .ok v t := by
  cases r <;> simp [Access.undone]

theorem Access.undone_raised {α : Type} {s t : State} {r : Access α} {g : FaultSignal} (h : r.undone s = .raised g t) :
    t = s := by
  cases r <;> cases h; rfl

/-- A sequence raises a signal in its first part or its second. -/
theorem Access.bind_eq_raised {α β : Type} {r : Access α} {f : α → State → Access β} {g : FaultSignal} {t : State} :
    r.bind f = .raised g t ↔ r = .raised g t ∨ ∃ v s, r = .ok v s ∧ f v s = .raised g t := by
  cases r <;> simp [Access.bind]

/-- A handler whose descriptor is well-formed and whose feature is present runs its body. -/
theorem runHandler_ready {sh : Shape} {need : FeatureNeed} {body : Desc → State → Access Unit} {d : Desc} {s : State}
    (hw : sh.malformed? d = none) (hf : need.met s.cpu.features d = true) :
    runHandler sh need body d s = (body d s).finish d := by
  simp [runHandler, hw, hf]

/-- What a handler can answer. -/
theorem runHandler_cases (sh : Shape) (need : FeatureNeed) (body : Desc → State → Access Unit) (d : Desc) (s : State) :
    (∃ c, sh.malformed? d = some c ∧ runHandler sh need body d s = .refused (.malformedDescriptor c)) ∨
    (sh.malformed? d = none ∧ need.met s.cpu.features d = false ∧
      runHandler sh need body d s = .next (s.raise .invalidOpcode)) ∨
    (sh.malformed? d = none ∧ need.met s.cpu.features d = true ∧
      runHandler sh need body d s = (body d s).finish d) := by
  unfold runHandler
  cases h : sh.malformed? d <;> cases hf : need.met s.cpu.features d <;> simp

/-- A handler is refused exactly for a malformed descriptor. -/
theorem runHandler_refused {sh : Shape} {need : FeatureNeed} {body : Desc → State → Access Unit} {d : Desc} {s : State}
    {r : Refusal} :
    runHandler sh need body d s = .refused r ↔ ∃ c, sh.malformed? d = some c ∧ r = .malformedDescriptor c := by
  unfold runHandler
  cases h : sh.malformed? d with
  | some c => simp [eq_comm]
  | none =>
    cases hf : need.met s.cpu.features d with
    | false => simp
    | true => cases body d s <;> simp [Access.finish]

/-- A handler that answers a next state has raised a signal and changed no register, or has completed and advanced RIP. -/
theorem runHandler_next {sh : Shape} {need : FeatureNeed} {body : Desc → State → Access Unit} {d : Desc} {s t : State}
    (h : runHandler sh need body d s = .next t) :
    t = s.raise .invalidOpcode ∨ (∃ g u, body d s = .raised g u ∧ t = u.raise g) ∨
      ∃ u, body d s = .ok () u ∧ t = u.advance d.ilen := by
  rcases runHandler_cases sh need body d s with ⟨c, -, e⟩ | ⟨-, -, e⟩ | ⟨-, -, e⟩
  · rw [e] at h; cases h
  · rw [e] at h; cases h; exact .inl rfl
  · rw [e] at h
    cases hb : body d s with
    | ok v u => rw [hb] at h; cases h; exact .inr (.inr ⟨u, rfl, rfl⟩)
    | raised g u => rw [hb] at h; cases h; exact .inr (.inl ⟨g, u, rfl, rfl⟩)
    | stopped i => rw [hb] at h; cases h

/-! Well-formed descriptors. -/

/-- R120: every clause holds of a descriptor no clause of which is broken. -/
theorem wellFormed_clauses {sh : Shape} {d : Desc} (h : sh.malformed? d = none) :
    d.rsvd = 0#7 ∧ d.ilen ≠ 0#4 ∧ d.vl.toNat ≤ sh.vlMax ∧ sh.mem.admits d.memform = true ∧ sh.mask.admits d = true ∧
    sh.imm.admits d.imm = true ∧ fieldOk sh.dst (sh.mem.takes .dst d.memform) d.dst = true ∧
    fieldOk sh.src1 (sh.mem.takes .src1 d.memform) d.src1 = true ∧
    fieldOk sh.src2 (sh.mem.takes .src2 d.memform) d.src2 = true ∧ fieldOk sh.src3 false d.src3 = true := by
  unfold Shape.malformed? at h
  split at h; · cases h
  rename_i h1
  split at h; · cases h
  rename_i h2
  split at h; · cases h
  rename_i h3
  split at h; · cases h
  rename_i h4
  split at h; · cases h
  rename_i h5
  split at h; · cases h
  rename_i h6
  split at h; · cases h
  rename_i h7
  split at h; · cases h
  rename_i h8
  split at h; · cases h
  rename_i h9
  split at h; · cases h
  rename_i h10
  rw [Bool.not_eq_true, Bool.not_eq_false'] at h4 h5 h6 h7 h8 h9 h10
  exact ⟨not_not.1 h1, h2, Nat.le_of_not_lt h3, h4, h5, h6, h7, h8, h9, h10⟩

/-- R112: a destination in a general register is one of the sixteen. -/
theorem dst_lt_of_gpr {sh : Shape} {d : Desc} (h : sh.malformed? d = none) (hk : sh.dst = .gpr)
    (hm : sh.mem.takes .dst d.memform = false) : d.dst.toNat < 16 := by
  have h := (wellFormed_clauses h).2.2.2.2.2.2.1
  rw [hk, hm] at h
  exact of_decide_eq_true h

/-! Operations on the LAPICs, the bus included, touch neither a register of an EE nor memory. -/

/-- What a LAPIC operation leaves alone. -/
structure LapicOnly (s t : State) : Prop where
  ee        : t.cpu.ee = s.cpu.ee
  features  : t.cpu.features = s.cpu.features
  apicId0   : t.cpu.apicId0 = s.cpu.apicId0
  cfg       : t.cfg = s.cfg
  mem       : t.mem = s.mem
  memFaults : t.memFaults = s.memFaults
  now       : t.now = s.now
  inputs    : t.inputs = s.inputs
  draws     : t.draws = s.draws
  below     : t.below.map (Cpu.setLapic s.cpu.lapic) = s.below.map (Cpu.setLapic s.cpu.lapic)
  above     : t.above.map (Cpu.setLapic s.cpu.lapic) = s.above.map (Cpu.setLapic s.cpu.lapic)

theorem LapicOnly.refl (s : State) : LapicOnly s s := ⟨rfl, rfl, rfl, rfl, rfl, rfl, rfl, rfl, rfl, rfl, rfl⟩

theorem map_setLapic_congr {a b : List Cpu} (l m : Lapic) (h : a.map (Cpu.setLapic l) = b.map (Cpu.setLapic l)) :
    a.map (Cpu.setLapic m) = b.map (Cpu.setLapic m) := by
  have h := congrArg (List.map (Cpu.setLapic m)) h
  simp only [List.map_map, Function.comp_def, Cpu.setLapic] at h
  exact h

theorem LapicOnly.trans {s t u : State} (h : LapicOnly s t) (k : LapicOnly t u) : LapicOnly s u :=
  ⟨k.ee.trans h.ee, k.features.trans h.features, k.apicId0.trans h.apicId0, k.cfg.trans h.cfg, k.mem.trans h.mem,
    k.memFaults.trans h.memFaults, k.now.trans h.now, k.inputs.trans h.inputs, k.draws.trans h.draws,
    (map_setLapic_congr _ _ k.below).trans h.below, (map_setLapic_congr _ _ k.above).trans h.above⟩

theorem LapicOnly.putLapic (s : State) (r : LapicEff) : LapicOnly s (s.putLapic r) :=
  ⟨rfl, rfl, rfl, rfl, rfl, rfl, rfl, rfl, rfl, rfl, rfl⟩

theorem map_setLapic_modify (l m : Lapic) (cs : List Cpu) (i : Nat) :
    (cs.modify i (Cpu.setLapic l)).map (Cpu.setLapic m) = cs.map (Cpu.setLapic m) := by
  induction cs generalizing i with
  | nil => simp
  | cons c cs ih => cases i <;> simp_all [Cpu.setLapic]

theorem LapicOnly.onLapic (s : State) (i : Nat) (f : Lapic → LapicEff) : LapicOnly s (s.onLapic i f) := by
  unfold State.onLapic
  cases s.lapicAt i with
  | none => exact .refl s
  | some l =>
    simp only [State.setLapicAt, State.emit]
    split
    · exact ⟨rfl, rfl, rfl, rfl, rfl, rfl, rfl, rfl, rfl, map_setLapic_modify _ _ _ _, rfl⟩
    · split
      · exact ⟨rfl, rfl, rfl, rfl, rfl, rfl, rfl, rfl, rfl, rfl, rfl⟩
      · exact ⟨rfl, rfl, rfl, rfl, rfl, rfl, rfl, rfl, rfl, rfl, map_setLapic_modify _ _ _ _⟩

theorem LapicOnly.deliver (s : State) (dm : BitVec 3) (vec : BitVec 8) (trig : Trigger) (i : Nat) :
    LapicOnly s (s.deliver dm vec trig i) := .onLapic _ _ _

theorem LapicOnly.deliverAll (s : State) (dm : BitVec 3) (vec : BitVec 8) (trig : Trigger) (is : List Nat) :
    LapicOnly s (s.deliverAll dm vec trig is) := by
  unfold State.deliverAll
  induction is generalizing s with
  | nil => exact .refl s
  | cons i is ih => exact (LapicOnly.deliver s dm vec trig i).trans (ih _)

theorem LapicOnly.deliverLowest (s : State) (is : List Nat) (vec : BitVec 8) (trig : Trigger) :
    LapicOnly s (s.deliverLowest is vec trig).2 := by
  unfold State.deliverLowest
  split
  · exact .refl s
  · exact .deliver _ _ _ _ _

theorem LapicOnly.busBroadcast (s : State) (dm : BitVec 3) (trig : Trigger) (vec : BitVec 8) (ex : Option Nat) :
    LapicOnly s (s.busBroadcast dm trig vec ex).2 := by
  unfold State.busBroadcast
  dsimp only
  split
  · exact .deliverLowest _ _ _ _
  · exact .deliverAll _ _ _ _ _

theorem LapicOnly.busDeliver (s : State) (x2 : Bool) (dest : BitVec 32) (dm : BitVec 3) (lg : Bool) (trig : Trigger)
    (vec : BitVec 8) : LapicOnly s (s.busDeliver x2 dest dm lg trig vec).2 := by
  unfold State.busDeliver
  split
  · split
    · exact .deliverLowest _ _ _ _
    · exact .refl s
  · split
    · unfold State.deliverLogical
      split
      · exact .refl s
      · exact .deliverAll _ _ _ _ _
    · unfold State.deliverPhysical
      split
      · exact .busBroadcast _ _ _ _ _
      · split
        · exact .refl s
        · exact .deliver _ _ _ _ _

theorem LapicOnly.route (s : State) (dest lo : BitVec 32) : LapicOnly s (s.route dest lo).2 := by
  unfold State.route
  dsimp only
  split
  · exact .busDeliver _ _ _ _ _ _ _
  · exact .putLapic _ _
  · exact .busBroadcast _ _ _ _ _
  · exact .busBroadcast _ _ _ _ _

theorem LapicOnly.sendIpi (s : State) (dest lo : BitVec 32) : LapicOnly s (s.sendIpi dest lo) := by
  unfold State.sendIpi
  dsimp only
  split
  · exact .refl s
  · split
    · exact .route _ _ _
    · exact (LapicOnly.route s dest lo).trans (.putLapic _ _)

theorem LapicOnly.putChecked {s t : State} {r : Except Invariant LapicEff} (h : s.putChecked r = .ok t) :
    LapicOnly s t := by
  cases r with
  | ok e => cases h; exact .putLapic s e
  | error i => cases h

theorem LapicOnly.putQuiet {s t : State} {l : Lapic} (h : s.putQuiet l = .ok t) : LapicOnly s t := by
  cases h; exact .putLapic _ _

theorem LapicOnly.writeIcrLo (s : State) (v : BitVec 32) : LapicOnly s (s.writeIcrLo v) :=
  (LapicOnly.putLapic s _).trans (.sendIpi _ _ _)

/-- A store in the window leaves every register of every EE, and memory, as they were. -/
theorem LapicOnly.mmioWrite {s t : State} {slot : BitVec 8} {v : BitVec 32} (h : s.mmioWrite slot v = .ok t) :
    LapicOnly s t := by
  have hs : ∀ {u : State}, Except.ok (ε := Invariant) u = .ok t → LapicOnly s u → LapicOnly s t := by
    intro u e k; cases e; exact k
  unfold State.mmioWrite at h
  dsimp only at h
  split at h
  all_goals try split at h
  all_goals try split at h
  all_goals first
    | exact hs h (.refl s)
    | exact hs h (.putLapic _ _)
    | exact hs h (.writeIcrLo _ _)
    | exact .putChecked h

/-! The memory port. -/

/-- A read that ends well comes from memory and changes nothing, or from a register of the window. -/
theorem memRead_ok {s t : State} {a : Word} {n : Nat} {v : Packed} (h : s.memRead a n = .ok v t) :
    (s.target a n = .memory ∧ memFaultOf s.memFaults false a n = none ∧ t = s ∧ v = Memory.readBytes s.mem a n) ∨
    ∃ slot r, s.target a n = .window slot ∧ s.cpu.lapic.mmioRead s.cfg s.now slot = .ok r ∧
      v = r.1.setWidth 512 ∧ t = s.putLapic r.2 := by
  unfold State.memRead at h
  split at h
  · rename_i ht
    split at h
    · cases h
    · rename_i hf; cases h; exact .inl ⟨ht, hf, rfl, rfl⟩
  · rename_i slot ht
    split at h
    · rename_i r hr; cases h; exact .inr ⟨slot, r, ht, hr, rfl, rfl⟩
    · cases h
  · cases h

/-- A read leaves every register of the EE, and memory, as they were. -/
theorem LapicOnly.memRead {s t : State} {a : Word} {n : Nat} {v : Packed} (h : s.memRead a n = .ok v t) :
    LapicOnly s t := by
  rcases memRead_ok h with ⟨-, -, rfl, -⟩ | ⟨_, _, -, -, -, rfl⟩
  · exact .refl _
  · exact .putLapic _ _

/-- A store that ends well puts bytes into memory, or writes a register of the window. -/
theorem memWrite_ok {s t : State} {a : Word} {n : Nat} {v : Packed} (h : s.memWrite a n v = .ok () t) :
    (s.target a n = .memory ∧ memFaultOf s.memFaults true a n = none ∧
      t = { s with mem := Memory.writeBytes s.mem a v n }) ∨
    ∃ slot, s.target a n = .window slot ∧ s.mmioWrite slot (v.setWidth 32) = .ok t := by
  unfold State.memWrite at h
  split at h
  · rename_i ht
    split at h
    · cases h
    · rename_i hf; cases h; exact .inl ⟨ht, hf, rfl⟩
  · rename_i slot ht
    split at h
    · rename_i u hu; cases h; exact .inr ⟨slot, ht, hu⟩
    · cases h
  · cases h

/-- A read or a store that raises a signal changes nothing. -/
theorem memRead_raised {s t : State} {a : Word} {n : Nat} {g : FaultSignal} (h : s.memRead a n = .raised g t) :
    t = s := by
  unfold State.memRead at h
  split at h <;> (try split at h) <;> cases h <;> rfl

theorem memWrite_raised {s t : State} {a : Word} {n : Nat} {v : Packed} {g : FaultSignal}
    (h : s.memWrite a n v = .raised g t) : t = s := by
  unfold State.memWrite at h
  split at h <;> (try split at h) <;> cases h <;> rfl

/-- Reading an operand leaves every register of the EE, and memory, as they were. -/
theorem LapicOnly.srcG {s t : State} {w : Nat} {d : Desc} {r : BitVec 5} {v : BitVec w} (h : s.srcG w d r = .ok v t) :
    LapicOnly s t := by
  unfold State.srcG at h
  split at h
  · obtain ⟨x, u, hx, hu⟩ := Access.bind_eq_ok.1 h
    cases hu; exact .memRead hx
  · cases h; exact .refl _

theorem LapicOnly.srcV {s t : State} {L : Nat} {d : Desc} {r : BitVec 5} {v : Packed} (h : s.srcV L d r = .ok v t) :
    LapicOnly s t := by
  unfold State.srcV at h
  split at h
  · exact .memRead h
  · cases h; exact .refl _

theorem LapicOnly.bitBase {s t : State} {w : Nat} {o : BitOffset} {d : Desc} {v : BitVec w}
    (h : s.bitBase w o d = .ok v t) : LapicOnly s t := by
  unfold State.bitBase at h
  split at h
  · obtain ⟨x, u, hx, hu⟩ := Access.bind_eq_ok.1 h
    cases hu; exact .memRead hx
  · cases h; exact .refl _

theorem LapicOnly.readElements {w : Nat} {as : List Word} {s t : State} {es : List (BitVec w)}
    (h : s.readElements w as = .ok es t) : LapicOnly s t := by
  induction as generalizing s es with
  | nil => cases h; exact .refl _
  | cons a as ih =>
    obtain ⟨x, u, hx, hu⟩ := Access.bind_eq_ok.1 (Access.undone_eq_ok.1 h)
    obtain ⟨y, v, hy, hv⟩ := Access.bind_eq_ok.1 hu
    cases hv; exact (LapicOnly.memRead hx).trans (ih hy)

/-- Reading elements changes nothing when it raises a signal. -/
theorem readElements_raised {w : Nat} {as : List Word} {s t : State} {g : FaultSignal}
    (h : s.readElements w as = .raised g t) : t = s := by
  cases as with
  | nil => cases h
  | cons a as => exact Access.undone_raised h

/-! Registers. -/

theorem LapicOnly.gpr {s t : State} (h : LapicOnly s t) (i : Nat) : t.gpr i = s.gpr i := by
  simp only [State.gpr, h.ee]
theorem LapicOnly.vreg {s t : State} (h : LapicOnly s t) (i : Nat) : t.vreg i = s.vreg i := by
  simp only [State.vreg, h.ee]
theorem LapicOnly.kreg {s t : State} (h : LapicOnly s t) (i : Nat) : t.kreg i = s.kreg i := by
  simp only [State.kreg, h.ee]
theorem LapicOnly.rflags {s t : State} (h : LapicOnly s t) : t.rflags = s.rflags := by
  simp only [State.rflags, h.ee]
theorem LapicOnly.rip {s t : State} (h : LapicOnly s t) : t.rip = s.rip := by
  simp only [State.rip, h.ee]
theorem LapicOnly.byteAt {s t : State} (h : LapicOnly s t) (a : Word) : t.byteAt a = s.byteAt a := by
  simp only [State.byteAt, h.mem]

/-! Flags. -/

theorem getLsbD_putBit (x : Word) (i j : Nat) (b : Bool) (hi : i < 64) :
    (putBit x i b).getLsbD j = if j = i then b else x.getLsbD j := by
  have one : (1#64 <<< i).getLsbD j = decide (j = i) := by
    rw [BitVec.getLsbD_shiftLeft, BitVec.getLsbD_one]
    by_cases h : j = i
    · subst h; simp [hi]
    · by_cases hji : j < i
      · simp [hji, h]
      · have : j - i ≠ 0 := by omega
        simp [this, h]
  by_cases hj : j < 64
  · cases b
    · simp only [putBit, Bool.false_eq_true, if_false, BitVec.getLsbD_and, BitVec.getLsbD_not, one, hj]
      by_cases h : j = i <;> simp [h]
    · simp only [putBit, if_true, BitVec.getLsbD_or, one]
      by_cases h : j = i <;> simp [h]
  · have h : j ≠ i := by omega
    simp [h, BitVec.getLsbD_of_ge _ j (by omega : 64 ≤ j)]

/-- What a flag update makes of the bit it names. -/
def FlagEffect.bit (e : FlagEffect) (policy : UndefFlagPolicy) (free old : Bool) : Bool :=
  match e with
  | .keep => old
  | .put b => b
  | .undefined => match policy with
    | .unchanged => old
    | .draw => free

theorem getLsbD_flagEffect (e : FlagEffect) (p : UndefFlagPolicy) (free : Bool) (i j : Nat) (x : Word) (hi : i < 64) :
    (e.apply p free i x).getLsbD j = if j = i then e.bit p free (x.getLsbD i) else x.getLsbD j := by
  cases e with
  | keep => by_cases h : j = i <;> simp [FlagEffect.apply, FlagEffect.bit, h]
  | put b => simp only [FlagEffect.apply, FlagEffect.bit, getLsbD_putBit _ _ _ _ hi]
  | undefined =>
    cases p with
    | unchanged => by_cases h : j = i <;> simp [FlagEffect.apply, FlagEffect.bit, h]
    | draw => simp only [FlagEffect.apply, FlagEffect.bit, getLsbD_putBit _ _ _ _ hi]

/-- RFLAGS after an update, bit by bit. -/
theorem getLsbD_flagUpdate (u : FlagUpdate) (p : UndefFlagPolicy) (n j : Nat) (x : Word) :
    (u.apply p n x).getLsbD j =
      if j = 11 then u.of_.bit p (Config.freeFlag (n + 5)) (x.getLsbD 11)
      else if j = 7 then u.sf.bit p (Config.freeFlag (n + 4)) (x.getLsbD 7)
      else if j = 6 then u.zf.bit p (Config.freeFlag (n + 3)) (x.getLsbD 6)
      else if j = 4 then u.af.bit p (Config.freeFlag (n + 2)) (x.getLsbD 4)
      else if j = 2 then u.pf.bit p (Config.freeFlag (n + 1)) (x.getLsbD 2)
      else if j = 0 then u.cf.bit p (Config.freeFlag n) (x.getLsbD 0)
      else x.getLsbD j := by
  simp only [FlagUpdate.apply]
  repeat rw [getLsbD_flagEffect _ _ _ _ _ _ (by decide)]
  simp

theorem writeFlags_rflags (s : State) (u : FlagUpdate) :
    (s.writeFlags u).rflags = u.apply s.cfg.undefFlagPolicy s.draws s.rflags := by
  unfold State.writeFlags
  cases h : s.cfg.undefFlagPolicy <;> rfl

/-- What a flag update leaves alone. -/
theorem writeFlags_else (s : State) (u : FlagUpdate) :
    (∀ i, (s.writeFlags u).gpr i = s.gpr i) ∧ (∀ i, (s.writeFlags u).vreg i = s.vreg i) ∧
    (∀ i, (s.writeFlags u).kreg i = s.kreg i) ∧ (s.writeFlags u).rip = s.rip ∧ (s.writeFlags u).mem = s.mem ∧
    KeepsOutside s (s.writeFlags u) := by
  unfold State.writeFlags
  cases s.cfg.undefFlagPolicy <;>
    exact ⟨fun _ => rfl, fun _ => rfl, fun _ => rfl, rfl, rfl, rfl, rfl, rfl, rfl, rfl, rfl, rfl, rfl, rfl, rfl⟩

/-- What the statements say of a flag that held `old`. -/
def FlagEffect.says (e : FlagEffect) (old : Bool) : Option Bool :=
  match e with
  | .keep => some old
  | .put b => some b
  | .undefined => none

/-- Each flag of an update, as the statements say it. -/
theorem flagAfter_writeFlags {s s' : State} {u : FlagUpdate} {i : Nat} {e : FlagEffect} {free : Bool} {o : Option Bool}
    (hc : s'.cfg = s.cfg) (hr : s'.rflags = s.rflags)
    (h : (s'.writeFlags u).rflags.getLsbD i = e.bit s'.cfg.undefFlagPolicy free (s'.rflags.getLsbD i))
    (ho : o = e.says (s.rflags.getLsbD i)) :
    flagAfter s (s'.writeFlags u) i o := by
  subst ho
  cases e with
  | keep => simp only [flagAfter]; rw [h, hr]; rfl
  | put b => simp only [flagAfter]; rw [h]; rfl
  | undefined =>
    intro hp
    rw [h, hc, hp, hr]; rfl

/-- RFLAGS after an update, as the statements say it. -/
theorem flagsAfter_writeFlags {s s' : State} (u : FlagUpdate) (hc : s'.cfg = s.cfg) (hr : s'.rflags = s.rflags) :
    let say (e : FlagEffect) (i : Nat) : Option Bool := e.says (s.rflags.getLsbD i)
    FlagsAfter s (s'.writeFlags u) (say u.cf 0) (say u.pf 2) (say u.af 4) (say u.zf 6) (say u.sf 7) (say u.of_ 11) := by
  intro say
  have key (j : Nat) := (congrArg (BitVec.getLsbD · j) (writeFlags_rflags s' u)).trans (getLsbD_flagUpdate _ _ _ j _)
  refine ⟨flagAfter_writeFlags hc hr (free := Config.freeFlag s'.draws) (by simpa using key 0) rfl,
    flagAfter_writeFlags hc hr (free := Config.freeFlag (s'.draws + 1)) (by simpa using key 2) rfl,
    flagAfter_writeFlags hc hr (free := Config.freeFlag (s'.draws + 2)) (by simpa using key 4) rfl,
    flagAfter_writeFlags hc hr (free := Config.freeFlag (s'.draws + 3)) (by simpa using key 6) rfl,
    flagAfter_writeFlags hc hr (free := Config.freeFlag (s'.draws + 4)) (by simpa using key 7) rfl,
    flagAfter_writeFlags hc hr (free := Config.freeFlag (s'.draws + 5)) (by simpa using key 11) rfl, fun j _ hj => ?_⟩
  simp only [List.mem_cons, List.not_mem_nil, or_false, not_or] at hj
  simpa [hj, hr] using key j

end Sys2Proof.Machine
end

