-- ==== Sys2Proof/Laws/Bus.lean ====
section
/-! SUPPORT. What the operations of the bus do to the list of LAPICs, once (spec/60_exceptions.md R360, R375 to R383). -/

namespace Sys2Proof.Machine

/-- Replacing one LAPIC replaces it in the list of CPUs. -/
theorem cpus_setLapicAt (s : State) (i : Nat) (l : Lapic) : (s.setLapicAt i l).cpus = s.cpus.modify i (Cpu.setLapic l) := by
  unfold State.setLapicAt State.cpus State.focus
  split
  · rename_i h
    apply List.ext_getElem?
    intro j
    simp only [List.getElem?_modify, List.getElem?_append, List.length_modify]
    split
    · rfl
    · have : i ≠ j := by omega
      simp [this]
  · split
    · rename_i h
      apply List.ext_getElem?
      intro j
      simp only [List.getElem?_modify, List.getElem?_append]
      split
      · have : i ≠ j := by omega
        simp [this]
      · rcases hj : j - s.below.length with _ | k
        · have : i = j := by omega
          simp [this]
        · have : i ≠ j := by omega
          simp [this]
    · rename_i h1 h2
      apply List.ext_getElem?
      intro j
      simp only [List.getElem?_modify, List.getElem?_append]
      split
      · have : i ≠ j := by omega
        simp [this]
      · rcases hj : j - s.below.length with _ | k
        · have : i ≠ j := by omega
          simp [this]
        · simp [List.getElem?_modify]
          have : (i - s.below.length - 1 = k) = (i = j) := by rw [eq_iff_iff]; omega
          simp [this]

/-- One operation changes the LAPIC it is done on and no other. -/
theorem lapicAt_onLapic (s : State) (i j : Nat) (f : Lapic → LapicEff) :
    (s.onLapic i f).lapicAt j = if i = j then (s.lapicAt j).map (fun l => (f l).1) else s.lapicAt j := by
  unfold State.onLapic
  cases h : s.lapicAt i with
  | none => by_cases e : i = j; · subst e; simp [h]
            · simp [e]
  | some l =>
    have : ((s.setLapicAt i (f l).1).emit i (f l).2).lapicAt j = ((s.cpus.modify i (Cpu.setLapic (f l).1))[j]?).map Cpu.lapic := by
      show ((s.setLapicAt i (f l).1).cpus[j]?).map Cpu.lapic = _
      rw [cpus_setLapicAt]
    simp only [this, List.getElem?_modify]
    by_cases e : i = j
    · subst e
      unfold State.lapicAt at h
      simp only [if_true]
      unfold State.lapicAt
      cases hc : s.cpus[i]? with
      | none => simp [hc] at h
      | some c => simp [hc] at h; subst h; simp [Cpu.setLapic]
    · simp [e]; rfl

/-- A delivery to distinct LAPICs changes each of them by its own `deliver` and no other. -/
theorem lapicAt_deliverAll (dm : BitVec 3) (vec : BitVec 8) (trig : Trigger) (is : List Nat) (hn : is.Nodup) (s : State)
    (j : Nat) : (s.deliverAll dm vec trig is).lapicAt j =
      if j ∈ is then (s.lapicAt j).map (fun l => (l.deliver s.cfg dm vec trig).1) else s.lapicAt j := by
  unfold State.deliverAll
  induction is generalizing s with
  | nil => simp
  | cons i is ih =>
    rw [List.nodup_cons] at hn
    simp only [List.foldl_cons]
    rw [ih hn.2]
    have hc : (s.deliver dm vec trig i).cfg = s.cfg := (LapicOnly.onLapic s i _).cfg
    have hl : (s.deliver dm vec trig i).lapicAt j = if i = j then (s.lapicAt j).map (fun l => (l.deliver s.cfg dm vec trig).1) else s.lapicAt j := lapicAt_onLapic _ _ _ _
    rw [hc, hl]
    by_cases e : i = j
    · subst e; simp [hn.1]
    · have : j ≠ i := fun h => e h.symm
      simp [e, this]

/-- Which LAPICs a test selects. -/
theorem mem_lapicsWith (s : State) (p : Nat → Lapic → Bool) (i : Nat) :
    i ∈ s.lapicsWith p ↔ ∃ l, s.lapicAt i = some l ∧ p i l = true := by
  unfold State.lapicsWith
  simp only [List.mem_filter, List.mem_range]
  constructor
  · rintro ⟨h, k⟩
    cases hl : s.lapicAt i with
    | none => simp [hl] at k
    | some l => simp [hl] at k; exact ⟨l, rfl, k⟩
  · rintro ⟨l, h, k⟩
    refine ⟨?_, by simp [h, k]⟩
    unfold State.lapicAt at h
    by_contra hh
    rw [List.getElem?_eq_none (by omega)] at h; cases h

theorem nodup_lapicsWith (s : State) (p : Nat → Lapic → Bool) : (s.lapicsWith p).Nodup := List.Nodup.filter _ List.nodup_range
theorem sorted_lapicsWith (s : State) (p : Nat → Lapic → Bool) : (s.lapicsWith p).Pairwise (· < ·) :=
  List.Pairwise.filter _ List.pairwise_lt_range

/-- R383: the modes in which a LAPIC takes messages. -/
theorem Lapic.isLive_iff (l : Lapic) : l.isLive = true ↔ l.mode = .xapic ∨ l.mode = .x2apic := by
  unfold Lapic.isLive; cases l.mode <;> simp

end Sys2Proof.Machine
end

