-- ==== Sys2Proof/Laws/Lapic.lean ====
section
/-! SUPPORT. What the shared operations of the local APIC do, once: bitmaps, priority classes, the signal, the timer's
disarm. -/

namespace Sys2Proof.Machine

/-! Bitmaps (R361). -/

theorem getLsbD_bit32 {k : Nat} (j : Nat) (hk : k < 32) : (1#32 <<< k).getLsbD j = decide (j = k) := by
  rw [BitVec.getLsbD_shiftLeft, BitVec.getLsbD_one]
  by_cases h : j = k
  · subst h; simp [hk]
  · by_cases hji : j < k
    · simp [hji, h]
    · have : j - k ≠ 0 := by omega
      simp [this, h]

theorem vector_word_lt (v : BitVec 8) : v.toNat / 32 < 8 := by
  have := v.isLt; omega

theorem bmWord_bmSetWord_vector (m : Bitmap) (x : BitVec 32) (v u : BitVec 8) :
    bmWord (bmSetWord m (v.toNat / 32) x) (u.toNat / 32) =
      if u.toNat / 32 = v.toNat / 32 then x else bmWord m (u.toNat / 32) := by
  rw [bmWord_bmSetWord, Nat.mod_eq_of_lt (vector_word_lt v), Nat.mod_eq_of_lt (vector_word_lt u)]
  simp only [eq_comm]

theorem vector_eq_iff {u v : BitVec 8} (h : u.toNat / 32 = v.toNat / 32) :
    decide (u = v) = decide (u.toNat % 32 = v.toNat % 32) := by
  congr 1; rw [← BitVec.toNat_inj, eq_iff_iff]; omega

/-- Setting a vector sets its bit and no other. -/
theorem bmTest_bmSet (m : Bitmap) (v u : BitVec 8) : bmTest (bmSet m v) u = (decide (u = v) || bmTest m u) := by
  unfold bmTest bmSet
  rw [bmWord_bmSetWord_vector]
  by_cases h : u.toNat / 32 = v.toNat / 32
  · rw [if_pos h, BitVec.getLsbD_or, getLsbD_bit32 _ (by omega), h, vector_eq_iff h, Bool.or_comm]
  · have : u ≠ v := fun e => h (by rw [e])
    simp [h, this]

/-- Clearing a vector clears its bit and no other. -/
theorem bmTest_bmClear (m : Bitmap) (v u : BitVec 8) : bmTest (bmClear m v) u = (!decide (u = v) && bmTest m u) := by
  unfold bmTest bmClear
  rw [bmWord_bmSetWord_vector]
  by_cases h : u.toNat / 32 = v.toNat / 32
  · have h32 : u.toNat % 32 < 32 := by omega
    rw [if_pos h, BitVec.getLsbD_and, BitVec.getLsbD_not, getLsbD_bit32 _ (by omega), h, vector_eq_iff h, Bool.and_comm]
    simp [h32]
  · have : u ≠ v := fun e => h (by rw [e])
    simp [h, this]

/-! Priority classes. -/

theorem prioClass_toNat (v : BitVec 8) : (prioClass v).toNat = v.toNat / 16 * 16 := by
  revert v; decide

theorem prioClass_lt {a b : BitVec 8} : (prioClass a).toNat < (prioClass b).toNat ↔ a.toNat / 16 < b.toNat / 16 := by
  rw [prioClass_toNat, prioClass_toNat]; omega

theorem prioClass_eq_zero {v : BitVec 8} : prioClass v = 0#8 ↔ v.toNat < 16 := by
  revert v; decide

/-! The signal (R364). -/

/-- `service_local_apic` sets the signal when the conditions hold and changes nothing else. -/
theorem Lapic.service_eq (cfg : Config) (l : Lapic) :
    l.service cfg = ({ l with intrPending := l.intrPending || l.signals cfg },
      if l.signals cfg then [.signalEvent] else []) := by
  unfold Lapic.service
  cases h : l.signals cfg <;> simp

/-- When the signal is asserted. -/
theorem Lapic.signals_iff (cfg : Config) (l : Lapic) :
    l.signals cfg = true ↔ l.intrPending = false ∧ ∃ v, l.highestPriorityInt cfg l.irr = some v ∧
      (∀ w, l.highestPriorityInt cfg l.isr = some w → w.toNat < v.toNat) ∧ l.taskPriority.toNat / 16 < v.toNat / 16 := by
  unfold Lapic.signals
  cases l.intrPending <;> simp
  cases l.highestPriorityInt cfg l.irr with
  | none => simp
  | some v =>
    simp only [prioClass_lt, Option.some.injEq, exists_eq_left']
    cases l.highestPriorityInt cfg l.isr <;> simp

/-- The scan reads the interrupt-enable registers and the bitmap it is given, and nothing else of the LAPIC. -/
theorem Lapic.highestPriorityInt_congr (cfg : Config) {l m : Lapic} (hi : m.ier = l.ier) (hx : m.xapicExt = l.xapicExt)
    (map : Bitmap) : m.highestPriorityInt cfg map = l.highestPriorityInt cfg map := by
  simp only [Lapic.highestPriorityInt, Lapic.ierActive, hi, hx]

/-- What `trigger_irq` may change: the pending and trigger-mode bitmaps, the signal, the shadow error status. -/
theorem Lapic.triggerIrq_keeps (cfg : Config) (v : BitVec 8) (trig : Trigger) (bypass : Bool) (l : Lapic) :
    let m := (l.triggerIrq cfg v trig bypass).1
    m = { l with irr := m.irr, tmr := m.tmr, intrPending := m.intrPending, shadowErrorStatus := m.shadowErrorStatus } := by
  unfold Lapic.triggerIrq
  split
  · rfl
  · split
    · rfl
    · simp only [Lapic.service_eq]

/-- What `deliver` may change. -/
theorem Lapic.deliver_keeps (cfg : Config) (dm : BitVec 3) (v : BitVec 8) (trig : Trigger) (l : Lapic) :
    let m := (l.deliver cfg dm v trig).1
    m = { l with irr := m.irr, tmr := m.tmr, intrPending := m.intrPending, shadowErrorStatus := m.shadowErrorStatus } := by
  unfold Lapic.deliver
  split <;> first | rfl | exact Lapic.triggerIrq_keeps _ _ _ _ _

/-! The timer (R404, R407, R410). -/

/-- The guarded disarm leaves an inactive timer and changes nothing else. -/
theorem Lapic.stopTimer_eq (l : Lapic) :
    l.stopTimer = { l with
      timerActive := false
      timerHandle := { l.timerHandle with armed := l.timerHandle.armed && !l.timerActive } } := by
  unfold Lapic.stopTimer Lapic.deactivateTimer
  cases h : l.timerActive <;> simp
  rw [← h]

end Sys2Proof.Machine
end

