-- ==== Sys2Proof/Laws/PerInstr.lean ====
section
/-! SUPPORT. Lemmas made per instruction: the handler ROM holds every instruction at its own id (spec/30_encoding.md R118). -/

namespace Sys2Proof.Laws.RomRow

/-- The ROM row at the instruction's id rebuilds the instruction from its descriptor. -/
def Statement (i : Instr) : Prop :=
  ∃ c, romFind i.handlerId romTables = some c ∧ c i.desc = i

theorem illegal (d : Desc) : Statement (.illegal d) := ⟨_, rfl, rfl⟩
theorem bt16G (d : Desc) : Statement (.bt16G d) := ⟨_, rfl, rfl⟩
theorem bt16I (d : Desc) : Statement (.bt16I d) := ⟨_, rfl, rfl⟩
theorem bt32G (d : Desc) : Statement (.bt32G d) := ⟨_, rfl, rfl⟩
theorem bt32I (d : Desc) : Statement (.bt32I d) := ⟨_, rfl, rfl⟩
theorem bt64G (d : Desc) : Statement (.bt64G d) := ⟨_, rfl, rfl⟩
theorem bt64I (d : Desc) : Statement (.bt64I d) := ⟨_, rfl, rfl⟩
theorem bts16G (d : Desc) : Statement (.bts16G d) := ⟨_, rfl, rfl⟩
theorem bts16I (d : Desc) : Statement (.bts16I d) := ⟨_, rfl, rfl⟩
theorem bts32G (d : Desc) : Statement (.bts32G d) := ⟨_, rfl, rfl⟩
theorem bts32I (d : Desc) : Statement (.bts32I d) := ⟨_, rfl, rfl⟩
theorem bts64G (d : Desc) : Statement (.bts64G d) := ⟨_, rfl, rfl⟩
theorem bts64I (d : Desc) : Statement (.bts64I d) := ⟨_, rfl, rfl⟩
theorem btr16G (d : Desc) : Statement (.btr16G d) := ⟨_, rfl, rfl⟩
theorem btr16I (d : Desc) : Statement (.btr16I d) := ⟨_, rfl, rfl⟩
theorem btr32G (d : Desc) : Statement (.btr32G d) := ⟨_, rfl, rfl⟩
theorem btr32I (d : Desc) : Statement (.btr32I d) := ⟨_, rfl, rfl⟩
theorem btr64G (d : Desc) : Statement (.btr64G d) := ⟨_, rfl, rfl⟩
theorem btr64I (d : Desc) : Statement (.btr64I d) := ⟨_, rfl, rfl⟩
theorem btc16G (d : Desc) : Statement (.btc16G d) := ⟨_, rfl, rfl⟩
theorem btc16I (d : Desc) : Statement (.btc16I d) := ⟨_, rfl, rfl⟩
theorem btc32G (d : Desc) : Statement (.btc32G d) := ⟨_, rfl, rfl⟩
theorem btc32I (d : Desc) : Statement (.btc32I d) := ⟨_, rfl, rfl⟩
theorem btc64G (d : Desc) : Statement (.btc64G d) := ⟨_, rfl, rfl⟩
theorem btc64I (d : Desc) : Statement (.btc64I d) := ⟨_, rfl, rfl⟩
theorem bsf16 (d : Desc) : Statement (.bsf16 d) := ⟨_, rfl, rfl⟩
theorem bsf32 (d : Desc) : Statement (.bsf32 d) := ⟨_, rfl, rfl⟩
theorem bsf64 (d : Desc) : Statement (.bsf64 d) := ⟨_, rfl, rfl⟩
theorem bsr16 (d : Desc) : Statement (.bsr16 d) := ⟨_, rfl, rfl⟩
theorem bsr32 (d : Desc) : Statement (.bsr32 d) := ⟨_, rfl, rfl⟩
theorem bsr64 (d : Desc) : Statement (.bsr64 d) := ⟨_, rfl, rfl⟩
theorem popcnt16 (d : Desc) : Statement (.popcnt16 d) := ⟨_, rfl, rfl⟩
theorem popcnt32 (d : Desc) : Statement (.popcnt32 d) := ⟨_, rfl, rfl⟩
theorem popcnt64 (d : Desc) : Statement (.popcnt64 d) := ⟨_, rfl, rfl⟩
theorem tzcnt16 (d : Desc) : Statement (.tzcnt16 d) := ⟨_, rfl, rfl⟩
theorem tzcnt32 (d : Desc) : Statement (.tzcnt32 d) := ⟨_, rfl, rfl⟩
theorem tzcnt64 (d : Desc) : Statement (.tzcnt64 d) := ⟨_, rfl, rfl⟩
theorem lzcnt16 (d : Desc) : Statement (.lzcnt16 d) := ⟨_, rfl, rfl⟩
theorem lzcnt32 (d : Desc) : Statement (.lzcnt32 d) := ⟨_, rfl, rfl⟩
theorem lzcnt64 (d : Desc) : Statement (.lzcnt64 d) := ⟨_, rfl, rfl⟩
theorem andn32 (d : Desc) : Statement (.andn32 d) := ⟨_, rfl, rfl⟩
theorem andn64 (d : Desc) : Statement (.andn64 d) := ⟨_, rfl, rfl⟩
theorem bextr32 (d : Desc) : Statement (.bextr32 d) := ⟨_, rfl, rfl⟩
theorem bextr64 (d : Desc) : Statement (.bextr64 d) := ⟨_, rfl, rfl⟩
theorem blsi32 (d : Desc) : Statement (.blsi32 d) := ⟨_, rfl, rfl⟩
theorem blsi64 (d : Desc) : Statement (.blsi64 d) := ⟨_, rfl, rfl⟩
theorem blsmsk32 (d : Desc) : Statement (.blsmsk32 d) := ⟨_, rfl, rfl⟩
theorem blsmsk64 (d : Desc) : Statement (.blsmsk64 d) := ⟨_, rfl, rfl⟩
theorem blsr32 (d : Desc) : Statement (.blsr32 d) := ⟨_, rfl, rfl⟩
theorem blsr64 (d : Desc) : Statement (.blsr64 d) := ⟨_, rfl, rfl⟩
theorem bzhi32 (d : Desc) : Statement (.bzhi32 d) := ⟨_, rfl, rfl⟩
theorem bzhi64 (d : Desc) : Statement (.bzhi64 d) := ⟨_, rfl, rfl⟩
theorem mulx32 (d : Desc) : Statement (.mulx32 d) := ⟨_, rfl, rfl⟩
theorem mulx64 (d : Desc) : Statement (.mulx64 d) := ⟨_, rfl, rfl⟩
theorem pdep32 (d : Desc) : Statement (.pdep32 d) := ⟨_, rfl, rfl⟩
theorem pdep64 (d : Desc) : Statement (.pdep64 d) := ⟨_, rfl, rfl⟩
theorem pext32 (d : Desc) : Statement (.pext32 d) := ⟨_, rfl, rfl⟩
theorem pext64 (d : Desc) : Statement (.pext64 d) := ⟨_, rfl, rfl⟩
theorem rorx32 (d : Desc) : Statement (.rorx32 d) := ⟨_, rfl, rfl⟩
theorem rorx64 (d : Desc) : Statement (.rorx64 d) := ⟨_, rfl, rfl⟩
theorem sarx32 (d : Desc) : Statement (.sarx32 d) := ⟨_, rfl, rfl⟩
theorem sarx64 (d : Desc) : Statement (.sarx64 d) := ⟨_, rfl, rfl⟩
theorem shlx32 (d : Desc) : Statement (.shlx32 d) := ⟨_, rfl, rfl⟩
theorem shlx64 (d : Desc) : Statement (.shlx64 d) := ⟨_, rfl, rfl⟩
theorem shrx32 (d : Desc) : Statement (.shrx32 d) := ⟨_, rfl, rfl⟩
theorem shrx64 (d : Desc) : Statement (.shrx64 d) := ⟨_, rfl, rfl⟩
theorem bextri32 (d : Desc) : Statement (.bextri32 d) := ⟨_, rfl, rfl⟩
theorem bextri64 (d : Desc) : Statement (.bextri64 d) := ⟨_, rfl, rfl⟩
theorem blcfill32 (d : Desc) : Statement (.blcfill32 d) := ⟨_, rfl, rfl⟩
theorem blcfill64 (d : Desc) : Statement (.blcfill64 d) := ⟨_, rfl, rfl⟩
theorem blci32 (d : Desc) : Statement (.blci32 d) := ⟨_, rfl, rfl⟩
theorem blci64 (d : Desc) : Statement (.blci64 d) := ⟨_, rfl, rfl⟩
theorem blcic32 (d : Desc) : Statement (.blcic32 d) := ⟨_, rfl, rfl⟩
theorem blcic64 (d : Desc) : Statement (.blcic64 d) := ⟨_, rfl, rfl⟩
theorem blcmsk32 (d : Desc) : Statement (.blcmsk32 d) := ⟨_, rfl, rfl⟩
theorem blcmsk64 (d : Desc) : Statement (.blcmsk64 d) := ⟨_, rfl, rfl⟩
theorem blcs32 (d : Desc) : Statement (.blcs32 d) := ⟨_, rfl, rfl⟩
theorem blcs64 (d : Desc) : Statement (.blcs64 d) := ⟨_, rfl, rfl⟩
theorem blsfill32 (d : Desc) : Statement (.blsfill32 d) := ⟨_, rfl, rfl⟩
theorem blsfill64 (d : Desc) : Statement (.blsfill64 d) := ⟨_, rfl, rfl⟩
theorem blsic32 (d : Desc) : Statement (.blsic32 d) := ⟨_, rfl, rfl⟩
theorem blsic64 (d : Desc) : Statement (.blsic64 d) := ⟨_, rfl, rfl⟩
theorem t1mskc32 (d : Desc) : Statement (.t1mskc32 d) := ⟨_, rfl, rfl⟩
theorem t1mskc64 (d : Desc) : Statement (.t1mskc64 d) := ⟨_, rfl, rfl⟩
theorem tzmsk32 (d : Desc) : Statement (.tzmsk32 d) := ⟨_, rfl, rfl⟩
theorem tzmsk64 (d : Desc) : Statement (.tzmsk64 d) := ⟨_, rfl, rfl⟩
theorem paddb (d : Desc) : Statement (.paddb d) := ⟨_, rfl, rfl⟩
theorem paddw (d : Desc) : Statement (.paddw d) := ⟨_, rfl, rfl⟩
theorem paddd (d : Desc) : Statement (.paddd d) := ⟨_, rfl, rfl⟩
theorem paddq (d : Desc) : Statement (.paddq d) := ⟨_, rfl, rfl⟩
theorem psubb (d : Desc) : Statement (.psubb d) := ⟨_, rfl, rfl⟩
theorem psubw (d : Desc) : Statement (.psubw d) := ⟨_, rfl, rfl⟩
theorem psubd (d : Desc) : Statement (.psubd d) := ⟨_, rfl, rfl⟩
theorem psubq (d : Desc) : Statement (.psubq d) := ⟨_, rfl, rfl⟩
theorem pand (d : Desc) : Statement (.pand d) := ⟨_, rfl, rfl⟩
theorem pandn (d : Desc) : Statement (.pandn d) := ⟨_, rfl, rfl⟩
theorem por (d : Desc) : Statement (.por d) := ⟨_, rfl, rfl⟩
theorem pxor (d : Desc) : Statement (.pxor d) := ⟨_, rfl, rfl⟩
theorem pcmpeqb (d : Desc) : Statement (.pcmpeqb d) := ⟨_, rfl, rfl⟩
theorem pcmpeqw (d : Desc) : Statement (.pcmpeqw d) := ⟨_, rfl, rfl⟩
theorem pcmpeqd (d : Desc) : Statement (.pcmpeqd d) := ⟨_, rfl, rfl⟩
theorem pcmpeqq (d : Desc) : Statement (.pcmpeqq d) := ⟨_, rfl, rfl⟩
theorem pcmpgtb (d : Desc) : Statement (.pcmpgtb d) := ⟨_, rfl, rfl⟩
theorem pcmpgtw (d : Desc) : Statement (.pcmpgtw d) := ⟨_, rfl, rfl⟩
theorem pcmpgtd (d : Desc) : Statement (.pcmpgtd d) := ⟨_, rfl, rfl⟩
theorem pcmpgtq (d : Desc) : Statement (.pcmpgtq d) := ⟨_, rfl, rfl⟩
theorem pminsb (d : Desc) : Statement (.pminsb d) := ⟨_, rfl, rfl⟩
theorem pminsw (d : Desc) : Statement (.pminsw d) := ⟨_, rfl, rfl⟩
theorem pminsd (d : Desc) : Statement (.pminsd d) := ⟨_, rfl, rfl⟩
theorem pminub (d : Desc) : Statement (.pminub d) := ⟨_, rfl, rfl⟩
theorem pminuw (d : Desc) : Statement (.pminuw d) := ⟨_, rfl, rfl⟩
theorem pminud (d : Desc) : Statement (.pminud d) := ⟨_, rfl, rfl⟩
theorem pmaxsb (d : Desc) : Statement (.pmaxsb d) := ⟨_, rfl, rfl⟩
theorem pmaxsw (d : Desc) : Statement (.pmaxsw d) := ⟨_, rfl, rfl⟩
theorem pmaxsd (d : Desc) : Statement (.pmaxsd d) := ⟨_, rfl, rfl⟩
theorem pmaxub (d : Desc) : Statement (.pmaxub d) := ⟨_, rfl, rfl⟩
theorem pmaxuw (d : Desc) : Statement (.pmaxuw d) := ⟨_, rfl, rfl⟩
theorem pmaxud (d : Desc) : Statement (.pmaxud d) := ⟨_, rfl, rfl⟩
theorem psllwI (d : Desc) : Statement (.psllwI d) := ⟨_, rfl, rfl⟩
theorem pslldI (d : Desc) : Statement (.pslldI d) := ⟨_, rfl, rfl⟩
theorem psllqI (d : Desc) : Statement (.psllqI d) := ⟨_, rfl, rfl⟩
theorem psrlwI (d : Desc) : Statement (.psrlwI d) := ⟨_, rfl, rfl⟩
theorem psrldI (d : Desc) : Statement (.psrldI d) := ⟨_, rfl, rfl⟩
theorem psrlqI (d : Desc) : Statement (.psrlqI d) := ⟨_, rfl, rfl⟩
theorem psrawI (d : Desc) : Statement (.psrawI d) := ⟨_, rfl, rfl⟩
theorem psradI (d : Desc) : Statement (.psradI d) := ⟨_, rfl, rfl⟩
theorem pshufd (d : Desc) : Statement (.pshufd d) := ⟨_, rfl, rfl⟩
theorem pshufb (d : Desc) : Statement (.pshufb d) := ⟨_, rfl, rfl⟩
theorem movdquLd (d : Desc) : Statement (.movdquLd d) := ⟨_, rfl, rfl⟩
theorem movdquSt (d : Desc) : Statement (.movdquSt d) := ⟨_, rfl, rfl⟩
theorem vpaddb (d : Desc) : Statement (.vpaddb d) := ⟨_, rfl, rfl⟩
theorem vpaddw (d : Desc) : Statement (.vpaddw d) := ⟨_, rfl, rfl⟩
theorem vpaddd (d : Desc) : Statement (.vpaddd d) := ⟨_, rfl, rfl⟩
theorem vpaddq (d : Desc) : Statement (.vpaddq d) := ⟨_, rfl, rfl⟩
theorem vpsubb (d : Desc) : Statement (.vpsubb d) := ⟨_, rfl, rfl⟩
theorem vpsubw (d : Desc) : Statement (.vpsubw d) := ⟨_, rfl, rfl⟩
theorem vpsubd (d : Desc) : Statement (.vpsubd d) := ⟨_, rfl, rfl⟩
theorem vpsubq (d : Desc) : Statement (.vpsubq d) := ⟨_, rfl, rfl⟩
theorem vpandd (d : Desc) : Statement (.vpandd d) := ⟨_, rfl, rfl⟩
theorem vpandq (d : Desc) : Statement (.vpandq d) := ⟨_, rfl, rfl⟩
theorem vpandnd (d : Desc) : Statement (.vpandnd d) := ⟨_, rfl, rfl⟩
theorem vpandnq (d : Desc) : Statement (.vpandnq d) := ⟨_, rfl, rfl⟩
theorem vpord (d : Desc) : Statement (.vpord d) := ⟨_, rfl, rfl⟩
theorem vporq (d : Desc) : Statement (.vporq d) := ⟨_, rfl, rfl⟩
theorem vpxord (d : Desc) : Statement (.vpxord d) := ⟨_, rfl, rfl⟩
theorem vpxorq (d : Desc) : Statement (.vpxorq d) := ⟨_, rfl, rfl⟩
theorem vpcmpeqb (d : Desc) : Statement (.vpcmpeqb d) := ⟨_, rfl, rfl⟩
theorem vpcmpeqw (d : Desc) : Statement (.vpcmpeqw d) := ⟨_, rfl, rfl⟩
theorem vpcmpeqd (d : Desc) : Statement (.vpcmpeqd d) := ⟨_, rfl, rfl⟩
theorem vpcmpeqq (d : Desc) : Statement (.vpcmpeqq d) := ⟨_, rfl, rfl⟩
theorem vpcmpgtb (d : Desc) : Statement (.vpcmpgtb d) := ⟨_, rfl, rfl⟩
theorem vpcmpgtw (d : Desc) : Statement (.vpcmpgtw d) := ⟨_, rfl, rfl⟩
theorem vpcmpgtd (d : Desc) : Statement (.vpcmpgtd d) := ⟨_, rfl, rfl⟩
theorem vpcmpgtq (d : Desc) : Statement (.vpcmpgtq d) := ⟨_, rfl, rfl⟩
theorem vpminsb (d : Desc) : Statement (.vpminsb d) := ⟨_, rfl, rfl⟩
theorem vpminsw (d : Desc) : Statement (.vpminsw d) := ⟨_, rfl, rfl⟩
theorem vpminsd (d : Desc) : Statement (.vpminsd d) := ⟨_, rfl, rfl⟩
theorem vpminsq (d : Desc) : Statement (.vpminsq d) := ⟨_, rfl, rfl⟩
theorem vpminub (d : Desc) : Statement (.vpminub d) := ⟨_, rfl, rfl⟩
theorem vpminuw (d : Desc) : Statement (.vpminuw d) := ⟨_, rfl, rfl⟩
theorem vpminud (d : Desc) : Statement (.vpminud d) := ⟨_, rfl, rfl⟩
theorem vpminuq (d : Desc) : Statement (.vpminuq d) := ⟨_, rfl, rfl⟩
theorem vpmaxsb (d : Desc) : Statement (.vpmaxsb d) := ⟨_, rfl, rfl⟩
theorem vpmaxsw (d : Desc) : Statement (.vpmaxsw d) := ⟨_, rfl, rfl⟩
theorem vpmaxsd (d : Desc) : Statement (.vpmaxsd d) := ⟨_, rfl, rfl⟩
theorem vpmaxsq (d : Desc) : Statement (.vpmaxsq d) := ⟨_, rfl, rfl⟩
theorem vpmaxub (d : Desc) : Statement (.vpmaxub d) := ⟨_, rfl, rfl⟩
theorem vpmaxuw (d : Desc) : Statement (.vpmaxuw d) := ⟨_, rfl, rfl⟩
theorem vpmaxud (d : Desc) : Statement (.vpmaxud d) := ⟨_, rfl, rfl⟩
theorem vpmaxuq (d : Desc) : Statement (.vpmaxuq d) := ⟨_, rfl, rfl⟩
theorem vpsllwI (d : Desc) : Statement (.vpsllwI d) := ⟨_, rfl, rfl⟩
theorem vpslldI (d : Desc) : Statement (.vpslldI d) := ⟨_, rfl, rfl⟩
theorem vpsllqI (d : Desc) : Statement (.vpsllqI d) := ⟨_, rfl, rfl⟩
theorem vpsrlwI (d : Desc) : Statement (.vpsrlwI d) := ⟨_, rfl, rfl⟩
theorem vpsrldI (d : Desc) : Statement (.vpsrldI d) := ⟨_, rfl, rfl⟩
theorem vpsrlqI (d : Desc) : Statement (.vpsrlqI d) := ⟨_, rfl, rfl⟩
theorem vpsrawI (d : Desc) : Statement (.vpsrawI d) := ⟨_, rfl, rfl⟩
theorem vpsradI (d : Desc) : Statement (.vpsradI d) := ⟨_, rfl, rfl⟩
theorem vpsraqI (d : Desc) : Statement (.vpsraqI d) := ⟨_, rfl, rfl⟩
theorem vpsllvw (d : Desc) : Statement (.vpsllvw d) := ⟨_, rfl, rfl⟩
theorem vpsllvd (d : Desc) : Statement (.vpsllvd d) := ⟨_, rfl, rfl⟩
theorem vpsllvq (d : Desc) : Statement (.vpsllvq d) := ⟨_, rfl, rfl⟩
theorem vpsrlvw (d : Desc) : Statement (.vpsrlvw d) := ⟨_, rfl, rfl⟩
theorem vpsrlvd (d : Desc) : Statement (.vpsrlvd d) := ⟨_, rfl, rfl⟩
theorem vpsrlvq (d : Desc) : Statement (.vpsrlvq d) := ⟨_, rfl, rfl⟩
theorem vpsravw (d : Desc) : Statement (.vpsravw d) := ⟨_, rfl, rfl⟩
theorem vpsravd (d : Desc) : Statement (.vpsravd d) := ⟨_, rfl, rfl⟩
theorem vpsravq (d : Desc) : Statement (.vpsravq d) := ⟨_, rfl, rfl⟩
theorem vpshufd (d : Desc) : Statement (.vpshufd d) := ⟨_, rfl, rfl⟩
theorem vpshufb (d : Desc) : Statement (.vpshufb d) := ⟨_, rfl, rfl⟩
theorem vmovdqu8Ld (d : Desc) : Statement (.vmovdqu8Ld d) := ⟨_, rfl, rfl⟩
theorem vmovdqu16Ld (d : Desc) : Statement (.vmovdqu16Ld d) := ⟨_, rfl, rfl⟩
theorem vmovdqu32Ld (d : Desc) : Statement (.vmovdqu32Ld d) := ⟨_, rfl, rfl⟩
theorem vmovdqu64Ld (d : Desc) : Statement (.vmovdqu64Ld d) := ⟨_, rfl, rfl⟩
theorem vmovdqu8St (d : Desc) : Statement (.vmovdqu8St d) := ⟨_, rfl, rfl⟩
theorem vmovdqu16St (d : Desc) : Statement (.vmovdqu16St d) := ⟨_, rfl, rfl⟩
theorem vmovdqu32St (d : Desc) : Statement (.vmovdqu32St d) := ⟨_, rfl, rfl⟩
theorem vmovdqu64St (d : Desc) : Statement (.vmovdqu64St d) := ⟨_, rfl, rfl⟩
theorem vpcmpb (d : Desc) : Statement (.vpcmpb d) := ⟨_, rfl, rfl⟩
theorem vpcmpw (d : Desc) : Statement (.vpcmpw d) := ⟨_, rfl, rfl⟩
theorem vpcmpd (d : Desc) : Statement (.vpcmpd d) := ⟨_, rfl, rfl⟩
theorem vpcmpq (d : Desc) : Statement (.vpcmpq d) := ⟨_, rfl, rfl⟩
theorem vpcmpub (d : Desc) : Statement (.vpcmpub d) := ⟨_, rfl, rfl⟩
theorem vpcmpuw (d : Desc) : Statement (.vpcmpuw d) := ⟨_, rfl, rfl⟩
theorem vpcmpud (d : Desc) : Statement (.vpcmpud d) := ⟨_, rfl, rfl⟩
theorem vpcmpuq (d : Desc) : Statement (.vpcmpuq d) := ⟨_, rfl, rfl⟩
theorem vpcompressb (d : Desc) : Statement (.vpcompressb d) := ⟨_, rfl, rfl⟩
theorem vpcompressw (d : Desc) : Statement (.vpcompressw d) := ⟨_, rfl, rfl⟩
theorem vpcompressd (d : Desc) : Statement (.vpcompressd d) := ⟨_, rfl, rfl⟩
theorem vpcompressq (d : Desc) : Statement (.vpcompressq d) := ⟨_, rfl, rfl⟩
theorem vpexpandb (d : Desc) : Statement (.vpexpandb d) := ⟨_, rfl, rfl⟩
theorem vpexpandw (d : Desc) : Statement (.vpexpandw d) := ⟨_, rfl, rfl⟩
theorem vpexpandd (d : Desc) : Statement (.vpexpandd d) := ⟨_, rfl, rfl⟩
theorem vpexpandq (d : Desc) : Statement (.vpexpandq d) := ⟨_, rfl, rfl⟩
theorem vpermb (d : Desc) : Statement (.vpermb d) := ⟨_, rfl, rfl⟩
theorem vpermw (d : Desc) : Statement (.vpermw d) := ⟨_, rfl, rfl⟩
theorem vpermd (d : Desc) : Statement (.vpermd d) := ⟨_, rfl, rfl⟩
theorem vpermq (d : Desc) : Statement (.vpermq d) := ⟨_, rfl, rfl⟩
theorem valignd (d : Desc) : Statement (.valignd d) := ⟨_, rfl, rfl⟩
theorem valignq (d : Desc) : Statement (.valignq d) := ⟨_, rfl, rfl⟩
theorem kmovbKg (d : Desc) : Statement (.kmovbKg d) := ⟨_, rfl, rfl⟩
theorem kmovwKg (d : Desc) : Statement (.kmovwKg d) := ⟨_, rfl, rfl⟩
theorem kmovdKg (d : Desc) : Statement (.kmovdKg d) := ⟨_, rfl, rfl⟩
theorem kmovqKg (d : Desc) : Statement (.kmovqKg d) := ⟨_, rfl, rfl⟩
theorem kmovbGk (d : Desc) : Statement (.kmovbGk d) := ⟨_, rfl, rfl⟩
theorem kmovwGk (d : Desc) : Statement (.kmovwGk d) := ⟨_, rfl, rfl⟩
theorem kmovdGk (d : Desc) : Statement (.kmovdGk d) := ⟨_, rfl, rfl⟩
theorem kmovqGk (d : Desc) : Statement (.kmovqGk d) := ⟨_, rfl, rfl⟩
theorem vpcomb (d : Desc) : Statement (.vpcomb d) := ⟨_, rfl, rfl⟩
theorem vpcomw (d : Desc) : Statement (.vpcomw d) := ⟨_, rfl, rfl⟩
theorem vpcomd (d : Desc) : Statement (.vpcomd d) := ⟨_, rfl, rfl⟩
theorem vpcomq (d : Desc) : Statement (.vpcomq d) := ⟨_, rfl, rfl⟩
theorem vpcomub (d : Desc) : Statement (.vpcomub d) := ⟨_, rfl, rfl⟩
theorem vpcomuw (d : Desc) : Statement (.vpcomuw d) := ⟨_, rfl, rfl⟩
theorem vpcomud (d : Desc) : Statement (.vpcomud d) := ⟨_, rfl, rfl⟩
theorem vpcomuq (d : Desc) : Statement (.vpcomuq d) := ⟨_, rfl, rfl⟩
theorem vpperm (d : Desc) : Statement (.vpperm d) := ⟨_, rfl, rfl⟩
theorem vpcmov (d : Desc) : Statement (.vpcmov d) := ⟨_, rfl, rfl⟩
theorem vpmacssww (d : Desc) : Statement (.vpmacssww d) := ⟨_, rfl, rfl⟩
theorem vpmacsww (d : Desc) : Statement (.vpmacsww d) := ⟨_, rfl, rfl⟩
theorem vpmacsswd (d : Desc) : Statement (.vpmacsswd d) := ⟨_, rfl, rfl⟩
theorem vpmacswd (d : Desc) : Statement (.vpmacswd d) := ⟨_, rfl, rfl⟩
theorem vpmacssdd (d : Desc) : Statement (.vpmacssdd d) := ⟨_, rfl, rfl⟩
theorem vpmacsdd (d : Desc) : Statement (.vpmacsdd d) := ⟨_, rfl, rfl⟩
theorem vpmacssdql (d : Desc) : Statement (.vpmacssdql d) := ⟨_, rfl, rfl⟩
theorem vpmacsdql (d : Desc) : Statement (.vpmacsdql d) := ⟨_, rfl, rfl⟩
theorem vpmacssdqh (d : Desc) : Statement (.vpmacssdqh d) := ⟨_, rfl, rfl⟩
theorem vpmacsdqh (d : Desc) : Statement (.vpmacsdqh d) := ⟨_, rfl, rfl⟩
theorem vpmadcsswd (d : Desc) : Statement (.vpmadcsswd d) := ⟨_, rfl, rfl⟩
theorem vpmadcswd (d : Desc) : Statement (.vpmadcswd d) := ⟨_, rfl, rfl⟩

end Sys2Proof.Laws.RomRow
end

