-- ==== Sys2Proof/Laws/Time.lean ====
section
/-! SUPPORT. What the time facility's two schedule elements can do (R70, R373): the callback, the handle that expires first,
an advance of time. -/

namespace Sys2Proof.Machine

/-- The handle of `l`, if it is armed, expires no earlier than `d` ticks from `now`. -/
def Lapic.ExpiresNoEarlier (now d : Word) (l : Lapic) : Prop :=
  l.timerHandle.armed = true → d.toNat ≤ (l.timerHandle.expiry - now).toNat

theorem lapicAt_callback (s : State) (i j : Nat) :
    (s.callback i).lapicAt j =
      if i = j then (s.lapicAt j).map (fun l => (l.deactivateTimer.periodic s.cfg s.now).1) else s.lapicAt j :=
  lapicAt_onLapic s i j _

/-- The callback is invoked exactly where it is due; elsewhere nothing happens. -/
theorem runPeriodic_eq (s : State) : runPeriodic s = .next (if s.cpu.lapic.isDue s.now then s.callback s.focus else s) := rfl

theorem Lapic.isDue_iff (now : Word) (l : Lapic) :
    l.isDue now = true ↔ l.timerHandle.armed = true ∧ l.timerHandle.expiry = now := by
  simp [Lapic.isDue]

/-- What the search for the first expiry has found after the CPUs of `is`. -/
theorem foldl_soonerOf (s : State) (is : List Nat) (best : Option (Nat × Word)) :
    match is.foldl s.soonerOf best with
    | none => best = none ∧ ∀ i ∈ is, ∀ l, s.lapicAt i = some l → l.timerHandle.armed = false
    | some (j, d) =>
      (best = some (j, d) ∨ j ∈ is ∧ ∃ l, s.lapicAt j = some l ∧ l.timerHandle.armed = true ∧ l.timerHandle.expiry - s.now = d) ∧
      (∀ b, best = some b → d.toNat ≤ b.2.toNat) ∧
      ∀ i ∈ is, ∀ l, s.lapicAt i = some l → l.ExpiresNoEarlier s.now d := by
  induction is generalizing best with
  | nil => cases best <;> simp
  | cons i is ih =>
    have ih := ih (s.soonerOf best i)
    simp only [List.foldl_cons]
    have hs : s.soonerOf best i = best ∧
          (∀ l, s.lapicAt i = some l → l.timerHandle.armed = true →
            ∃ b, best = some b ∧ b.2.toNat ≤ (l.timerHandle.expiry - s.now).toNat) ∨
        ∃ l, s.lapicAt i = some l ∧ l.timerHandle.armed = true ∧
          s.soonerOf best i = some (i, l.timerHandle.expiry - s.now) ∧
          ∀ b, best = some b → (l.timerHandle.expiry - s.now).toNat ≤ b.2.toNat := by
      unfold State.soonerOf
      cases hl : s.lapicAt i with
      | none => simp
      | some l =>
        cases ha : l.timerHandle.armed with
        | false => simp [ha]
        | true =>
          obtain _ | ⟨j, d⟩ := best
          · simp [ha]
          · by_cases h : (l.timerHandle.expiry - s.now).toNat < d.toNat
            · simp only [ha, if_true, if_pos h]; right; exact ⟨l, rfl, ha, rfl, fun b hb => by cases hb; exact h.le⟩
            · simp only [ha, if_true, if_neg h]; left
              exact ⟨trivial, fun _ hl _ => ⟨_, rfl, by cases hl; exact Nat.le_of_not_lt h⟩⟩
    generalize hf : is.foldl s.soonerOf (s.soonerOf best i) = r at ih ⊢
    obtain ⟨he, hn⟩ | ⟨l, hl, ha, he, hb⟩ := hs
    · rw [he] at ih
      obtain _ | ⟨j, d⟩ := r
      · obtain ⟨rfl, h⟩ := ih
        refine ⟨rfl, fun k hk l hl => ?_⟩
        obtain rfl | hk := List.mem_cons.1 hk
        · cases hh : l.timerHandle.armed with
          | false => rfl
          | true => obtain ⟨b, hb, -⟩ := hn l hl hh; cases hb
        · exact h k hk l hl
      · obtain ⟨h1, h2, h3⟩ := ih
        refine ⟨h1.imp_right fun h => ⟨List.mem_cons_of_mem _ h.1, h.2⟩, h2, fun k hk l hl ha => ?_⟩
        obtain rfl | hk := List.mem_cons.1 hk
        · obtain ⟨b, hb, hle⟩ := hn l hl ha
          exact (h2 b hb).trans hle
        · exact h3 k hk l hl ha
    · rw [he] at ih
      obtain _ | ⟨j, d⟩ := r
      · cases ih.1
      · obtain ⟨h1, h2, h3⟩ := ih
        have h2 := h2 _ rfl
        refine ⟨?_, fun b h => h2.trans (hb b h), fun k hk m hm hma => ?_⟩
        · obtain h1 | h1 := h1
          · cases h1; exact .inr ⟨List.mem_cons_self, l, hl, ha, rfl⟩
          · exact .inr ⟨List.mem_cons_of_mem _ h1.1, h1.2⟩
        · obtain rfl | hk := List.mem_cons.1 hk
          · rw [hl] at hm; cases hm; exact h2
          · exact h3 k hk m hm hma

theorem lapicAt_lt {s : State} {i : Nat} {l : Lapic} (h : s.lapicAt i = some l) : i ∈ List.range s.cpus.length := by
  obtain ⟨c, hc, -⟩ := Option.map_eq_some_iff.1 h
  exact List.mem_range.2 (List.getElem?_eq_some_iff.1 hc).1

/-- No handle is found exactly where none is armed. -/
theorem nextExpiry_none {s : State} (h : s.nextExpiry = none) {i : Nat} {l : Lapic} (hl : s.lapicAt i = some l) :
    l.timerHandle.armed = false := by
  have := foldl_soonerOf s (List.range s.cpus.length) none
  rw [show (List.range s.cpus.length).foldl s.soonerOf none = none from h] at this
  exact this.2 i (lapicAt_lt hl) l hl

/-- The handle that is found is armed, and none expires earlier. -/
theorem nextExpiry_some {s : State} {i : Nat} {d : Word} (h : s.nextExpiry = some (i, d)) :
    (∃ l, s.lapicAt i = some l ∧ l.timerHandle.armed = true ∧ l.timerHandle.expiry - s.now = d) ∧
    ∀ j l, s.lapicAt j = some l → l.ExpiresNoEarlier s.now d := by
  have := foldl_soonerOf s (List.range s.cpus.length) none
  rw [show (List.range s.cpus.length).foldl s.soonerOf none = some (i, d) from h] at this
  obtain ⟨h1, -, h3⟩ := this
  refine ⟨?_, fun j l hl => h3 j (lapicAt_lt hl) l hl⟩
  obtain h1 | h1 := h1
  · cases h1
  · exact h1.2

/-- R70: an advance of time passes no expiry: either the whole advance is made and every armed handle expires no earlier than at
the new time, or the machine goes to the first expiry, invokes that callback there and keeps the rest of the advance at
the head of the schedule. -/
theorem advanceTime_cases (s : State) (ticks : Word) :
    (s.advanceTime ticks = { s with now := s.now + ticks } ∧
      ∀ j l, s.lapicAt j = some l → l.ExpiresNoEarlier s.now ticks) ∨
    ∃ i l, s.lapicAt i = some l ∧ l.timerHandle.armed = true ∧
      (l.timerHandle.expiry - s.now).toNat < ticks.toNat ∧
      (∀ j m, s.lapicAt j = some m → m.ExpiresNoEarlier s.now (l.timerHandle.expiry - s.now)) ∧
      s.advanceTime ticks =
        let due := State.callback { s with now := l.timerHandle.expiry } i
        { due with inputs := .advanceTime (ticks - (l.timerHandle.expiry - s.now)) :: due.inputs } := by
  unfold State.advanceTime
  cases h : s.nextExpiry with
  | none => exact .inl ⟨rfl, fun j l hl ha => by rw [nextExpiry_none h hl] at ha; cases ha⟩
  | some p =>
    obtain ⟨i, d⟩ := p
    obtain ⟨⟨l, hl, ha, rfl⟩, hmin⟩ := nextExpiry_some h
    by_cases hd : ticks.toNat ≤ (l.timerHandle.expiry - s.now).toNat
    · exact .inl ⟨if_pos hd, fun j m hm hma => hd.trans (hmin j m hm hma)⟩
    · refine .inr ⟨i, l, hl, ha, by omega, hmin, ?_⟩
      simp only [if_neg hd]
      rw [show s.now + (l.timerHandle.expiry - s.now) = l.timerHandle.expiry by rw [BitVec.add_comm, BitVec.sub_add_cancel]]

end Sys2Proof.Machine
end

