-- ==== Sys2Proof/Tests/Slice0.lean ====
section
/-! SUPPORT. The model's own tests, each about one step; the expected results are those of spec/95 to spec/98. Then, for every
statement of Obligations.lean that has hypotheses, a witness that meets them. -/

open Sys2Proof Sys2Proof.Machine

set_option Elab.async false

namespace Sys2Proof.Tests

/-- A descriptor with every field 0 but the instruction length, 4. -/
def opd : Desc := ⟨0, 0, 0, 0, 0, 0, false, false, 4, 0, 0, 0⟩

/-- The machine after reset with RIP 0x1000 and the given RFLAGS. -/
def ee (flags : Nat) : State :=
  let s := State.reset
  { s with cpu := { s.cpu with ee := { s.cpu.ee with rip := 0x1000#64, rflags := BitVec.ofNat 64 flags } } }

/-- General registers given a value. -/
def gprs (xs : List (Nat × Nat)) (s : State) : State :=
  xs.foldl (fun s p => s.setGpr p.1 (BitVec.ofNat 64 p.2)) s

/-- Vector registers given a value. -/
def vregs (xs : List (Nat × Packed)) (s : State) : State :=
  xs.foldl (fun s p => s.setVreg p.1 p.2) s

/-- Opmask registers given a value. -/
def kregs (xs : List (Nat × Nat)) (s : State) : State :=
  xs.foldl (fun s p => s.setKreg p.1 (BitVec.ofNat 64 p.2)) s

/-- Memory: address, number of bytes, little-endian value. -/
def bytes (xs : List (Nat × Nat × Nat)) (s : State) : State :=
  { s with mem := xs.foldl (fun m p => Memory.writeBytes m (BitVec.ofNat 64 p.1) (BitVec.ofNat 512 p.2.2) p.2.1) s.mem }

/-- `MEM` faults every access that touches the byte at `a`. -/
def faultAt (a : Nat) (s : State) : State :=
  { s with memFaults := [⟨BitVec.ofNat 64 a, 1, true, true, 14, 0⟩] }

/-- A packed value, element 0 first. -/
def pack (w : Nat) (es : List Nat) : Packed :=
  BitVec.ofNat 512 (es.foldr (fun e n => n * 2 ^ w + e) 0)

/-- A pattern of elements repeated. -/
def rep (n : Nat) (es : List Nat) : List Nat :=
  (List.replicate n es).flatten

/-- 64 bytes 0xEE. -/
def filled : Packed := pack 8 (rep 64 [0xEE])

/-- A value in the low `L` bits of a register that was `filled`. -/
def onto (L : Nat) (v : Packed) : Packed :=
  highBits L filled ||| v

/-- What an instruction leaves, when it answers a next state. -/
def ran {α : Type} (i : Instr) (s : State) (f : State → α) : Option α :=
  match exec i s with
  | .next t => some (f t)
  | _ => none

/-- The refusal an instruction answers, if any. -/
def refuses (i : Instr) (s : State) : Option Refusal :=
  match exec i s with
  | .refused r => some r
  | _ => none

/-! Ill-formed terms: one for each check of R120, which refuses it under its name. -/

theorem test_malformed_reserved : ¬ Instr.WellFormed (.bsf32 { opd with rsvd := 1 }) ∧
    refuses (.bsf32 { opd with rsvd := 1 }) (ee 2) = some (.malformedDescriptor .reserved) := by
  decide +kernel

theorem test_malformed_ilen : ¬ Instr.WellFormed (.bsf32 { opd with ilen := 0 }) ∧
    refuses (.bsf32 { opd with ilen := 0 }) (ee 2) = some (.malformedDescriptor .ilen) := by
  decide +kernel

theorem test_malformed_vl : ¬ Instr.WellFormed (.vpaddd { opd with vl := 3 }) ∧
    refuses (.vpaddd { opd with vl := 3 }) (ee 2) = some (.malformedDescriptor .vl) := by
  decide +kernel

theorem test_malformed_memform : ¬ Instr.WellFormed (.psllwI { opd with memform := true }) ∧
    refuses (.psllwI { opd with memform := true }) (ee 2) = some (.malformedDescriptor .memform) := by
  decide +kernel

theorem test_malformed_mask : ¬ Instr.WellFormed (.vpcmpeqd { opd with opmask := 1 }) ∧
    refuses (.vpcmpeqd { opd with opmask := 1 }) (ee 2) = some (.malformedDescriptor .mask) := by
  decide +kernel

theorem test_malformed_imm : ¬ Instr.WellFormed (.bts16I { opd with imm := 0x100 }) ∧
    refuses (.bts16I { opd with imm := 0x100 }) (ee 2) = some (.malformedDescriptor .imm) := by
  decide +kernel

theorem test_malformed_dst : ¬ Instr.WellFormed (.bsf32 { opd with dst := 16 }) ∧
    refuses (.bsf32 { opd with dst := 16 }) (ee 2) = some (.malformedDescriptor .dst) := by
  decide +kernel

theorem test_malformed_src1 : ¬ Instr.WellFormed (.kmovbGk { opd with src1 := 8 }) ∧
    refuses (.kmovbGk { opd with src1 := 8 }) (ee 2) = some (.malformedDescriptor .src1) := by
  decide +kernel

theorem test_malformed_src2 : ¬ Instr.WellFormed (.andn32 { opd with src2 := 3, memform := true }) ∧
    refuses (.andn32 { opd with src2 := 3, memform := true }) (ee 2) = some (.malformedDescriptor .src2) := by
  decide +kernel

theorem test_malformed_src3 : ¬ Instr.WellFormed (.paddb { opd with src3 := 1 }) ∧
    refuses (.paddb { opd with src3 := 1 }) (ee 2) = some (.malformedDescriptor .src3) := by
  decide +kernel

/-! Decoding. `fields` is a descriptor with a different value in every field; `word` is its encoding, written out field by field
from the layout of R110, with the handler's id of spec/opcode_table.json. -/

def fields : Desc := ⟨3, 7, 8, 9, 2, 6, true, true, 5, 0x40, 0x41, 0x1000⟩

def word (id : BitVec 10) : DescWord :=
  0x0000000000001000#64 ++ 0x00000041#32 ++ 0b1000000#7 ++ 0b0101#4 ++ 0b1#1 ++ 0b1#1 ++ 0b110#3 ++ 0b10#2 ++ 0b01001#5 ++
    0b01000#5 ++ 0b00111#5 ++ 0b00011#5 ++ id

/-- Every id of a list decodes to the instruction beside it. -/
def Decodes (rows : List (BitVec 10 × (Desc → Instr))) : Prop :=
  rows.map (fun r => decode (word r.1)) = rows.map (fun r => .ok (r.2 fields))

theorem test_decode_illegal : Decodes [(0x000, .illegal)] := rfl

theorem test_decode_bit : Decodes [(0x010, .bt16G), (0x011, .bt16I), (0x012, .bt32G), (0x013, .bt32I), (0x014,
    .bt64G), (0x015, .bt64I), (0x016, .bts16G), (0x017, .bts16I), (0x018, .bts32G), (0x019, .bts32I), (0x01a,
    .bts64G), (0x01b, .bts64I), (0x01c, .btr16G), (0x01d, .btr16I), (0x01e, .btr32G), (0x01f, .btr32I), (0x020,
    .btr64G), (0x021, .btr64I), (0x022, .btc16G), (0x023, .btc16I), (0x024, .btc32G), (0x025, .btc32I), (0x026,
    .btc64G), (0x027, .btc64I)] := rfl

theorem test_decode_bit_2 : Decodes [(0x028, .bsf16), (0x029, .bsf32), (0x02a, .bsf64), (0x02b, .bsr16), (0x02c,
    .bsr32), (0x02d, .bsr64), (0x02e, .popcnt16), (0x02f, .popcnt32), (0x030, .popcnt64), (0x031, .tzcnt16), (0x032,
    .tzcnt32), (0x033, .tzcnt64), (0x034, .lzcnt16), (0x035, .lzcnt32), (0x036, .lzcnt64)] := rfl

theorem test_decode_bmi : Decodes [(0x040, .andn32), (0x041, .andn64), (0x042, .bextr32), (0x043, .bextr64), (0x044,
    .blsi32), (0x045, .blsi64), (0x046, .blsmsk32), (0x047, .blsmsk64), (0x048, .blsr32), (0x049, .blsr64), (0x04a,
    .bzhi32), (0x04b, .bzhi64), (0x04c, .mulx32), (0x04d, .mulx64), (0x04e, .pdep32), (0x04f, .pdep64), (0x050,
    .pext32), (0x051, .pext64), (0x052, .rorx32), (0x053, .rorx64), (0x054, .sarx32), (0x055, .sarx64), (0x056,
    .shlx32), (0x057, .shlx64)] := rfl

theorem test_decode_bmi_2 : Decodes [(0x058, .shrx32), (0x059, .shrx64)] := rfl

theorem test_decode_tbm : Decodes [(0x060, .bextri32), (0x061, .bextri64), (0x062, .blcfill32), (0x063, .blcfill64),
    (0x064, .blci32), (0x065, .blci64), (0x066, .blcic32), (0x067, .blcic64), (0x068, .blcmsk32), (0x069, .blcmsk64),
    (0x06a, .blcs32), (0x06b, .blcs64), (0x06c, .blsfill32), (0x06d, .blsfill64), (0x06e, .blsic32), (0x06f,
    .blsic64), (0x070, .t1mskc32), (0x071, .t1mskc64), (0x072, .tzmsk32), (0x073, .tzmsk64)] := rfl

theorem test_decode_sse : Decodes [(0x080, .paddb), (0x081, .paddw), (0x082, .paddd), (0x083, .paddq), (0x084,
    .psubb), (0x085, .psubw), (0x086, .psubd), (0x087, .psubq), (0x088, .pand), (0x089, .pandn), (0x08a, .por),
    (0x08b, .pxor), (0x08c, .pcmpeqb), (0x08d, .pcmpeqw), (0x08e, .pcmpeqd), (0x08f, .pcmpeqq), (0x090, .pcmpgtb),
    (0x091, .pcmpgtw), (0x092, .pcmpgtd), (0x093, .pcmpgtq), (0x094, .pminsb), (0x095, .pminsw), (0x096, .pminsd),
    (0x097, .pminub)] := rfl

theorem test_decode_sse_2 : Decodes [(0x098, .pminuw), (0x099, .pminud), (0x09a, .pmaxsb), (0x09b, .pmaxsw), (0x09c,
    .pmaxsd), (0x09d, .pmaxub), (0x09e, .pmaxuw), (0x09f, .pmaxud), (0x0a0, .psllwI), (0x0a1, .pslldI), (0x0a2,
    .psllqI), (0x0a3, .psrlwI), (0x0a4, .psrldI), (0x0a5, .psrlqI), (0x0a6, .psrawI), (0x0a7, .psradI), (0x0a8,
    .pshufd), (0x0a9, .pshufb), (0x0aa, .movdquLd), (0x0ab, .movdquSt)] := rfl

theorem test_decode_avx : Decodes [(0x100, .vpaddb), (0x101, .vpaddw), (0x102, .vpaddd), (0x103, .vpaddq), (0x104,
    .vpsubb), (0x105, .vpsubw), (0x106, .vpsubd), (0x107, .vpsubq), (0x108, .vpandd), (0x109, .vpandq), (0x10a,
    .vpandnd), (0x10b, .vpandnq), (0x10c, .vpord), (0x10d, .vporq), (0x10e, .vpxord), (0x10f, .vpxorq), (0x110,
    .vpcmpeqb), (0x111, .vpcmpeqw), (0x112, .vpcmpeqd), (0x113, .vpcmpeqq), (0x114, .vpcmpgtb), (0x115, .vpcmpgtw),
    (0x116, .vpcmpgtd), (0x117, .vpcmpgtq)] := rfl

theorem test_decode_avx_2 : Decodes [(0x118, .vpminsb), (0x119, .vpminsw), (0x11a, .vpminsd), (0x11b, .vpminsq),
    (0x11c, .vpminub), (0x11d, .vpminuw), (0x11e, .vpminud), (0x11f, .vpminuq), (0x120, .vpmaxsb), (0x121, .vpmaxsw),
    (0x122, .vpmaxsd), (0x123, .vpmaxsq), (0x124, .vpmaxub), (0x125, .vpmaxuw), (0x126, .vpmaxud), (0x127, .vpmaxuq),
    (0x128, .vpsllwI), (0x129, .vpslldI), (0x12a, .vpsllqI), (0x12b, .vpsrlwI), (0x12c, .vpsrldI), (0x12d, .vpsrlqI),
    (0x12e, .vpsrawI), (0x12f, .vpsradI)] := rfl

theorem test_decode_avx_3 : Decodes [(0x130, .vpsraqI), (0x131, .vpsllvw), (0x132, .vpsllvd), (0x133, .vpsllvq),
    (0x134, .vpsrlvw), (0x135, .vpsrlvd), (0x136, .vpsrlvq), (0x137, .vpsravw), (0x138, .vpsravd), (0x139, .vpsravq),
    (0x13a, .vpshufd), (0x13b, .vpshufb), (0x13c, .vmovdqu8Ld), (0x13d, .vmovdqu16Ld), (0x13e, .vmovdqu32Ld), (0x13f,
    .vmovdqu64Ld), (0x140, .vmovdqu8St), (0x141, .vmovdqu16St), (0x142, .vmovdqu32St), (0x143, .vmovdqu64St)] := rfl

theorem test_decode_avx512 : Decodes [(0x180, .vpcmpb), (0x181, .vpcmpw), (0x182, .vpcmpd), (0x183, .vpcmpq), (0x184,
    .vpcmpub), (0x185, .vpcmpuw), (0x186, .vpcmpud), (0x187, .vpcmpuq), (0x188, .vpcompressb), (0x189, .vpcompressw),
    (0x18a, .vpcompressd), (0x18b, .vpcompressq), (0x18c, .vpexpandb), (0x18d, .vpexpandw), (0x18e, .vpexpandd),
    (0x18f, .vpexpandq), (0x190, .vpermb), (0x191, .vpermw), (0x192, .vpermd), (0x193, .vpermq), (0x194, .valignd),
    (0x195, .valignq), (0x196, .kmovbKg), (0x197, .kmovwKg)] := rfl

theorem test_decode_avx512_2 : Decodes [(0x198, .kmovdKg), (0x199, .kmovqKg), (0x19a, .kmovbGk), (0x19b, .kmovwGk),
    (0x19c, .kmovdGk), (0x19d, .kmovqGk)] := rfl

theorem test_decode_xop : Decodes [(0x200, .vpcomb), (0x201, .vpcomw), (0x202, .vpcomd), (0x203, .vpcomq), (0x204,
    .vpcomub), (0x205, .vpcomuw), (0x206, .vpcomud), (0x207, .vpcomuq), (0x208, .vpperm), (0x209, .vpcmov), (0x20a,
    .vpmacssww), (0x20b, .vpmacsww), (0x20c, .vpmacsswd), (0x20d, .vpmacswd), (0x20e, .vpmacssdd), (0x20f,
    .vpmacsdd), (0x210, .vpmacssdql), (0x211, .vpmacsdql), (0x212, .vpmacssdqh), (0x213, .vpmacsdqh), (0x214,
    .vpmadcsswd), (0x215, .vpmadcswd)] := rfl

theorem test_decode_unassigned : decode (word 0x037) = .error (.unassigned 0x037#10) ∧
    decode (word 0x3FF) = .error (.unassigned 0x3FF#10) := ⟨rfl, rfl⟩

/-- Packed words of spec/98_test_programs.md (section 3). -/
theorem test_decode_popcnt64_word : decode 0x0000_0000_0000_2000_0000_0000_00B0_0000_0030#144 =
    .ok (.popcnt64 ⟨0, 0, 0, 0, 0, 0, false, true, 5, 0, 0, 0x2000⟩) := rfl

theorem test_decode_bextr32_word : decode 0x0000_0000_0000_2000_0000_0000_00D0_0010_1842#144 =
    .ok (.bextr32 ⟨6, 0, 1, 0, 0, 0, false, true, 6, 0, 0, 0x2000⟩) := rfl

/-- Opcode-table words: 10 bits give the handler (R110), everything above them is 0. -/
theorem test_table_word : decodeTableWord 16 0x02F = some (.popcnt32 { opd with ilen := 0 }) := rfl

/-! One step of each operation: vectors of spec/95_test_vectors.md, 96_test_vectors_simd.md and 98_test_programs.md (section 4). -/

theorem test_bt32I : ran (.bt32I { opd with imm := 0x3 })
    (ee 0x8d7 |> gprs [(0, 0x8)])
    (fun t => t.rflags) = some 0x8d7#64 := by
  decide +kernel

theorem test_bt32G : ran (.bt32G { opd with src1 := 1, memform := true, addr := 0x1000 })
    (ee 0x8d7 |> gprs [(1, 0xffffffff)] |> bytes [(0xffc, 4, 0x80000000), (0x1000, 4, 0x0)])
    (fun t => t.rflags) = some 0x8d7#64 := by
  decide +kernel

theorem test_bts16I : ran (.bts16I { opd with imm := 0xf })
    (ee 0x2 |> gprs [(0, 0xaaaaaaaaaaaa0000)])
    (fun t => (t.gpr 0, t.rflags)) = some (0xaaaaaaaaaaaa8000#64, 0x2#64) := by
  decide +kernel

theorem test_bts32G : ran (.bts32G { opd with src1 := 1, memform := true, addr := 0x2000 })
    (ee 0x2 |> gprs [(1, 0x21)] |> bytes [(0x2004, 4, 0x2)])
    (fun t => (Memory.readBytes t.mem 0x2004 4, t.rflags)) = some (0x2#512, 0x3#64) := by
  decide +kernel

theorem test_btr64I : ran (.btr64I { opd with imm := 0x3f })
    (ee 0x2 |> gprs [(0, 0xffffffffffffffff)])
    (fun t => (t.gpr 0, t.rflags)) = some (0x7fffffffffffffff#64, 0x3#64) := by
  decide +kernel

theorem test_btr16G : ran (.btr16G { opd with src1 := 1, memform := true, addr := 0x2000 })
    (ee 0x2 |> gprs [(1, 0xfff3)] |> bytes [(0x1ffe, 2, 0xffff)])
    (fun t => (Memory.readBytes t.mem 0x1ffe 2, t.rflags)) = some (0xfff7#512, 0x3#64) := by
  decide +kernel

theorem test_btc32I : ran (.btc32I opd)
    (ee 0x3 |> gprs [(0, 0x0)])
    (fun t => (t.gpr 0, t.rflags)) = some (0x1#64, 0x2#64) := by
  decide +kernel

theorem test_btc64G : ran (.btc64G { opd with dst := 5, src1 := 6 })
    (ee 0x2 |> gprs [(5, 0x0), (6, 0x7f)])
    (fun t => (t.gpr 5, t.rflags)) = some (0x8000000000000000#64, 0x2#64) := by
  decide +kernel

theorem test_bsf32 : ran (.bsf32 { opd with src1 := 1 })
    (ee 0x8d7 |> gprs [(1, 0x48), (0, 0xffffffffffffffff)])
    (fun t => (t.gpr 0, t.rflags)) = some (0x3#64, 0x897#64) := by
  decide +kernel

theorem test_bsr32 : ran (.bsr32 { opd with src1 := 1 })
    (ee 0x8d7 |> gprs [(1, 0x48), (0, 0xffffffffffffffff)])
    (fun t => (t.gpr 0, t.rflags)) = some (0x6#64, 0x897#64) := by
  decide +kernel

theorem test_bsf32_2 : ran (.bsf32 { opd with src1 := 1 })
    (ee 0x2 |> gprs [(1, 0x0), (0, 0x1122334455667788)])
    (fun t => (t.gpr 0, t.rflags)) = some (0x1122334455667788#64, 0x42#64) := by
  decide +kernel

theorem test_popcnt32 : ran (.popcnt32 { opd with src1 := 3 })
    (ee 0x8d7 |> gprs [(3, 0xf0f0f0f0)])
    (fun t => (t.gpr 0, t.rflags)) = some (0x10#64, 0x2#64) := by
  decide +kernel

theorem test_popcnt16 : ran (.popcnt16 { opd with src1 := 3 })
    (ee 0x8d7 |> gprs [(3, 0xffff0000), (0, 0x1122334455667788)])
    (fun t => (t.gpr 0, t.rflags)) = some (0x1122334455660000#64, 0x42#64) := by
  decide +kernel

theorem test_tzcnt32 : ran (.tzcnt32 { opd with src1 := 1 })
    (ee 0x8d7 |> gprs [(1, 0x0), (0, 0xffffffffffffffff)])
    (fun t => (t.gpr 0, t.rflags)) = some (0x20#64, 0x897#64) := by
  decide +kernel

theorem test_tzcnt64 : ran (.tzcnt64 { opd with src1 := 1 })
    (ee 0x2 |> gprs [(1, 0x8000000000000000)])
    (fun t => (t.gpr 0, t.rflags)) = some (0x3f#64, 0x2#64) := by
  decide +kernel

theorem test_lzcnt16 : ran (.lzcnt16 { opd with src1 := 1 })
    (ee 0x8d7 |> gprs [(1, 0x1)])
    (fun t => (t.gpr 0, t.rflags)) = some (0xf#64, 0x896#64) := by
  decide +kernel

theorem test_lzcnt64 : ran (.lzcnt64 { opd with src1 := 1 })
    (ee 0x2 |> gprs [(1, 0x8000000000000000)])
    (fun t => (t.gpr 0, t.rflags)) = some (0x0#64, 0x42#64) := by
  decide +kernel

theorem test_andn32 : ran (.andn32 { opd with src1 := 1, src2 := 2 })
    (ee 0x8d7 |> gprs [(1, 0xffff), (2, 0x12345678)])
    (fun t => (t.gpr 0, t.rflags)) = some (0x12340000#64, 0x6#64) := by
  decide +kernel

theorem test_bextr32 : ran (.bextr32 { opd with src1 := 1, src2 := 2 })
    (ee 0x8d7 |> gprs [(1, 0x12345678), (2, 0xffff081c)])
    (fun t => (t.gpr 0, t.rflags)) = some (0x1#64, 0x2#64) := by
  decide +kernel

theorem test_blsi64 : ran (.blsi64 { opd with src1 := 1 })
    (ee 0x8d7 |> gprs [(1, 0x8000000000000000)])
    (fun t => (t.gpr 0, t.rflags)) = some (0x8000000000000000#64, 0x87#64) := by
  decide +kernel

theorem test_blsmsk32 : ran (.blsmsk32 { opd with src1 := 1 })
    (ee 0x8d7 |> gprs [(1, 0x58)])
    (fun t => (t.gpr 0, t.rflags)) = some (0xf#64, 0x6#64) := by
  decide +kernel

theorem test_blsr32 : ran (.blsr32 { opd with src1 := 1 })
    (ee 0x8d7 |> gprs [(1, 0x80000000)])
    (fun t => (t.gpr 0, t.rflags)) = some (0x0#64, 0x46#64) := by
  decide +kernel

theorem test_bzhi32 : ran (.bzhi32 { opd with src1 := 1, src2 := 2 })
    (ee 0x8d7 |> gprs [(1, 0xffffffff), (2, 0x20)])
    (fun t => (t.gpr 0, t.rflags)) = some (0xffffffff#64, 0x87#64) := by
  decide +kernel

theorem test_bzhi64 : ran (.bzhi64 { opd with src1 := 1, src2 := 2 })
    (ee 0x8d7 |> gprs [(1, 0xffffffffffffffff), (2, 0x3f)])
    (fun t => (t.gpr 0, t.rflags)) = some (0x7fffffffffffffff#64, 0x6#64) := by
  decide +kernel

theorem test_mulx32 : ran (.mulx32 { opd with src1 := 1, src2 := 3 })
    (ee 0x8d7 |> gprs [(2, 0xffffffff), (3, 0xffffffff)])
    (fun t => (t.gpr 0, t.gpr 1, t.rflags)) = some (0xfffffffe#64, 0x1#64, 0x8d7#64) := by
  decide +kernel

theorem test_mulx32_2 : ran (.mulx32 { opd with dst := 5, src1 := 5, src2 := 3 })
    (ee 0x8d7 |> gprs [(2, 0x10000), (3, 0x10000)])
    (fun t => (t.gpr 5, t.rflags)) = some (0x1#64, 0x8d7#64) := by
  decide +kernel

theorem test_pdep32 : ran (.pdep32 { opd with src1 := 1, src2 := 2 })
    (ee 0x8d7 |> gprs [(1, 0xf), (2, 0xf0f0)])
    (fun t => (t.gpr 0, t.rflags)) = some (0xf0#64, 0x8d7#64) := by
  decide +kernel

theorem test_pext32 : ran (.pext32 { opd with src1 := 1, src2 := 2 })
    (ee 0x8d7 |> gprs [(1, 0x12345678), (2, 0xff00)])
    (fun t => (t.gpr 0, t.rflags)) = some (0x56#64, 0x8d7#64) := by
  decide +kernel

theorem test_rorx32 : ran (.rorx32 { opd with src1 := 1, imm := 0x1 })
    (ee 0x8d7 |> gprs [(1, 0x1)])
    (fun t => (t.gpr 0, t.rflags)) = some (0x80000000#64, 0x8d7#64) := by
  decide +kernel

theorem test_sarx32 : ran (.sarx32 { opd with src1 := 1, src2 := 2 })
    (ee 0x8d7 |> gprs [(1, 0x80000000), (2, 0x4)])
    (fun t => (t.gpr 0, t.rflags)) = some (0xf8000000#64, 0x8d7#64) := by
  decide +kernel

theorem test_shrx64 : ran (.shrx64 { opd with src1 := 1, src2 := 2 })
    (ee 0x8d7 |> gprs [(1, 0x8000000000000000), (2, 0x3f)])
    (fun t => (t.gpr 0, t.rflags)) = some (0x1#64, 0x8d7#64) := by
  decide +kernel

theorem test_bextri64 : ran (.bextri64 { opd with src1 := 1, imm := 0x1020 })
    (ee 0x8d7 |> gprs [(1, 0xfedcba9876543210)])
    (fun t => (t.gpr 0, t.rflags)) = some (0xba98#64, 0x2#64) := by
  decide +kernel

theorem test_blcs64 : ran (.blcs64 { opd with src1 := 1 })
    (ee 0x8d7 |> gprs [(1, 0xffffffffffffffff)])
    (fun t => (t.gpr 0, t.rflags)) = some (0xffffffffffffffff#64, 0x87#64) := by
  decide +kernel

theorem test_tzmsk64 : ran (.tzmsk64 { opd with src1 := 1 })
    (ee 0x8d7 |> gprs [(1, 0x8000000000000000)])
    (fun t => (t.gpr 0, t.rflags)) = some (0x7fffffffffffffff#64, 0x6#64) := by
  decide +kernel

theorem test_blsfill64 : ran (.blsfill64 { opd with memform := true, addr := 0x5000 })
    (ee 0x8d7 |> bytes [(0x5000, 8, 0x100)])
    (fun t => (t.gpr 0, t.rflags)) = some (0x1ff#64, 0x6#64) := by
  decide +kernel

theorem test_blcfill64 : ran (.blcfill64 { opd with src1 := 1 })
    (ee 0x8d7 |> gprs [(1, 0x80000001000001a7)])
    (fun t => (t.gpr 0, t.rflags)) = some (0x80000001000001a0#64, 0x86#64) := by
  decide +kernel

theorem test_blci64 : ran (.blci64 { opd with src1 := 1 })
    (ee 0x8d7 |> gprs [(1, 0x80000001000001a7)])
    (fun t => (t.gpr 0, t.rflags)) = some (0xfffffffffffffff7#64, 0x82#64) := by
  decide +kernel

theorem test_blcic64 : ran (.blcic64 { opd with src1 := 1 })
    (ee 0x8d7 |> gprs [(1, 0x80000001000001a7)])
    (fun t => (t.gpr 0, t.rflags)) = some (0x8#64, 0x2#64) := by
  decide +kernel

theorem test_blcmsk64 : ran (.blcmsk64 { opd with src1 := 1 })
    (ee 0x8d7 |> gprs [(1, 0x80000001000001a7)])
    (fun t => (t.gpr 0, t.rflags)) = some (0xf#64, 0x6#64) := by
  decide +kernel

theorem test_blsic64 : ran (.blsic64 { opd with src1 := 1 })
    (ee 0x8d7 |> gprs [(1, 0x80000001000001a7)])
    (fun t => (t.gpr 0, t.rflags)) = some (0xfffffffffffffffe#64, 0x82#64) := by
  decide +kernel

theorem test_t1mskc64 : ran (.t1mskc64 { opd with src1 := 1 })
    (ee 0x8d7 |> gprs [(1, 0x80000001000001a7)])
    (fun t => (t.gpr 0, t.rflags)) = some (0xfffffffffffffff8#64, 0x82#64) := by
  decide +kernel

theorem test_paddb : ran (.paddb { opd with dst := 1, src2 := 2 })
    (ee 0x2 |> vregs [(1, pack 8 [0xff, 0x7f, 0x80, 0x1, 0xff, 0x7f, 0x80, 0x1, 0xff, 0x7f, 0x80, 0x1, 0xff, 0x7f,
      0x80, 0x1, 0xee, 0xee, 0xee, 0xee, 0xee, 0xee, 0xee, 0xee, 0xee, 0xee, 0xee, 0xee, 0xee, 0xee, 0xee, 0xee,
      0xee, 0xee, 0xee, 0xee, 0xee, 0xee, 0xee, 0xee, 0xee, 0xee, 0xee, 0xee, 0xee, 0xee, 0xee, 0xee, 0xee, 0xee,
      0xee, 0xee, 0xee, 0xee, 0xee, 0xee, 0xee, 0xee, 0xee, 0xee, 0xee, 0xee, 0xee, 0xee]), (2, pack 8 (rep 4 [0x1,
      0x1, 0x80, 0xff]))])
    (fun t => t.vreg 1) = some (pack 8 [0x0, 0x80, 0x0, 0x0, 0x0, 0x80, 0x0, 0x0, 0x0, 0x80, 0x0, 0x0, 0x0, 0x80,
      0x0, 0x0, 0xee, 0xee, 0xee, 0xee, 0xee, 0xee, 0xee, 0xee, 0xee, 0xee, 0xee, 0xee, 0xee, 0xee, 0xee, 0xee, 0xee,
      0xee, 0xee, 0xee, 0xee, 0xee, 0xee, 0xee, 0xee, 0xee, 0xee, 0xee, 0xee, 0xee, 0xee, 0xee, 0xee, 0xee, 0xee,
      0xee, 0xee, 0xee, 0xee, 0xee, 0xee, 0xee, 0xee, 0xee, 0xee, 0xee, 0xee, 0xee]) := by
  decide +kernel

theorem test_psubd : ran (.psubd { opd with dst := 1, src2 := 2 })
    (ee 0x2 |> vregs [(1, pack 32 [0x0, 0x5, 0x80000000, 0x1, 0xeeeeeeee, 0xeeeeeeee, 0xeeeeeeee, 0xeeeeeeee,
      0xeeeeeeee, 0xeeeeeeee, 0xeeeeeeee, 0xeeeeeeee, 0xeeeeeeee, 0xeeeeeeee, 0xeeeeeeee, 0xeeeeeeee]), (2, pack 32
      [0x1, 0x5, 0x1, 0xffffffff])])
    (fun t => t.vreg 1) = some (pack 32 [0xffffffff, 0x0, 0x7fffffff, 0x2, 0xeeeeeeee, 0xeeeeeeee, 0xeeeeeeee,
      0xeeeeeeee, 0xeeeeeeee, 0xeeeeeeee, 0xeeeeeeee, 0xeeeeeeee, 0xeeeeeeee, 0xeeeeeeee, 0xeeeeeeee, 0xeeeeeeee]) :=
      by
  decide +kernel

theorem test_pand : ran (.pand { opd with dst := 1, src2 := 2 })
    (ee 0x2 |> vregs [(1, pack 64 [0xffffffffffffffff, 0xffffffffffffffff, 0xeeeeeeeeeeeeeeee, 0xeeeeeeeeeeeeeeee,
      0xeeeeeeeeeeeeeeee, 0xeeeeeeeeeeeeeeee, 0xeeeeeeeeeeeeeeee, 0xeeeeeeeeeeeeeeee]), (2, pack 64 (rep 2
      [0xf0f0f0f0f0f0f0f]))])
    (fun t => t.vreg 1) = some (pack 64 [0xf0f0f0f0f0f0f0f, 0xf0f0f0f0f0f0f0f, 0xeeeeeeeeeeeeeeee,
      0xeeeeeeeeeeeeeeee, 0xeeeeeeeeeeeeeeee, 0xeeeeeeeeeeeeeeee, 0xeeeeeeeeeeeeeeee, 0xeeeeeeeeeeeeeeee]) := by
  decide +kernel

theorem test_pandn : ran (.pandn { opd with dst := 1, src2 := 2 })
    (ee 0x2 |> vregs [(1, pack 64 [0xff00ff00ff00ff, 0xff00ff00ff00ff, 0xeeeeeeeeeeeeeeee, 0xeeeeeeeeeeeeeeee,
      0xeeeeeeeeeeeeeeee, 0xeeeeeeeeeeeeeeee, 0xeeeeeeeeeeeeeeee, 0xeeeeeeeeeeeeeeee]), (2, pack 64 (rep 2
      [0xffffffffffffffff]))])
    (fun t => t.vreg 1) = some (pack 64 [0xff00ff00ff00ff00, 0xff00ff00ff00ff00, 0xeeeeeeeeeeeeeeee,
      0xeeeeeeeeeeeeeeee, 0xeeeeeeeeeeeeeeee, 0xeeeeeeeeeeeeeeee, 0xeeeeeeeeeeeeeeee, 0xeeeeeeeeeeeeeeee]) := by
  decide +kernel

theorem test_por : ran (.por { opd with dst := 1, src2 := 2 })
    (ee 0x2 |> vregs [(1, pack 64 [0xf0f0, 0x1, 0xeeeeeeeeeeeeeeee, 0xeeeeeeeeeeeeeeee, 0xeeeeeeeeeeeeeeee,
      0xeeeeeeeeeeeeeeee, 0xeeeeeeeeeeeeeeee, 0xeeeeeeeeeeeeeeee]), (2, pack 64 [0xf0f, 0x2])])
    (fun t => t.vreg 1) = some (pack 64 [0xffff, 0x3, 0xeeeeeeeeeeeeeeee, 0xeeeeeeeeeeeeeeee, 0xeeeeeeeeeeeeeeee,
      0xeeeeeeeeeeeeeeee, 0xeeeeeeeeeeeeeeee, 0xeeeeeeeeeeeeeeee]) := by
  decide +kernel

theorem test_pxor : ran (.pxor { opd with dst := 1, src2 := 1 })
    (ee 0x2 |> vregs [(1, filled)])
    (fun t => t.vreg 1) = some (pack 64 [0x0, 0x0, 0xeeeeeeeeeeeeeeee, 0xeeeeeeeeeeeeeeee, 0xeeeeeeeeeeeeeeee,
      0xeeeeeeeeeeeeeeee, 0xeeeeeeeeeeeeeeee, 0xeeeeeeeeeeeeeeee]) := by
  decide +kernel

theorem test_pcmpeqb : ran (.pcmpeqb { opd with dst := 1, src2 := 2 })
    (ee 0x2 |> vregs [(1, pack 8 [0x0, 0x1, 0x2, 0x3, 0x4, 0x5, 0x6, 0x7, 0x8, 0x9, 0xa, 0xb, 0xc, 0xd, 0xe, 0xf,
      0xee, 0xee, 0xee, 0xee, 0xee, 0xee, 0xee, 0xee, 0xee, 0xee, 0xee, 0xee, 0xee, 0xee, 0xee, 0xee, 0xee, 0xee,
      0xee, 0xee, 0xee, 0xee, 0xee, 0xee, 0xee, 0xee, 0xee, 0xee, 0xee, 0xee, 0xee, 0xee, 0xee, 0xee, 0xee, 0xee,
      0xee, 0xee, 0xee, 0xee, 0xee, 0xee, 0xee, 0xee, 0xee, 0xee, 0xee, 0xee]), (2, pack 8 [0x0, 0xff, 0x2, 0xff,
      0x4, 0xff, 0x6, 0xff, 0x8, 0xff, 0xa, 0xff, 0xc, 0xff, 0xe, 0xff])])
    (fun t => t.vreg 1) = some (pack 8 [0xff, 0x0, 0xff, 0x0, 0xff, 0x0, 0xff, 0x0, 0xff, 0x0, 0xff, 0x0, 0xff, 0x0,
      0xff, 0x0, 0xee, 0xee, 0xee, 0xee, 0xee, 0xee, 0xee, 0xee, 0xee, 0xee, 0xee, 0xee, 0xee, 0xee, 0xee, 0xee,
      0xee, 0xee, 0xee, 0xee, 0xee, 0xee, 0xee, 0xee, 0xee, 0xee, 0xee, 0xee, 0xee, 0xee, 0xee, 0xee, 0xee, 0xee,
      0xee, 0xee, 0xee, 0xee, 0xee, 0xee, 0xee, 0xee, 0xee, 0xee, 0xee, 0xee, 0xee, 0xee]) := by
  decide +kernel

theorem test_pcmpgtb : ran (.pcmpgtb { opd with dst := 1, src2 := 2 })
    (ee 0x2 |> vregs [(1, pack 8 [0x7f, 0x80, 0x7f, 0x0, 0x7f, 0x80, 0x7f, 0x0, 0x7f, 0x80, 0x7f, 0x0, 0x7f, 0x80,
      0x7f, 0x0, 0xee, 0xee, 0xee, 0xee, 0xee, 0xee, 0xee, 0xee, 0xee, 0xee, 0xee, 0xee, 0xee, 0xee, 0xee, 0xee,
      0xee, 0xee, 0xee, 0xee, 0xee, 0xee, 0xee, 0xee, 0xee, 0xee, 0xee, 0xee, 0xee, 0xee, 0xee, 0xee, 0xee, 0xee,
      0xee, 0xee, 0xee, 0xee, 0xee, 0xee, 0xee, 0xee, 0xee, 0xee, 0xee, 0xee, 0xee, 0xee]), (2, pack 8 (rep 4 [0x80,
      0x7f, 0x7f, 0xff]))])
    (fun t => t.vreg 1) = some (pack 8 [0xff, 0x0, 0x0, 0xff, 0xff, 0x0, 0x0, 0xff, 0xff, 0x0, 0x0, 0xff, 0xff, 0x0,
      0x0, 0xff, 0xee, 0xee, 0xee, 0xee, 0xee, 0xee, 0xee, 0xee, 0xee, 0xee, 0xee, 0xee, 0xee, 0xee, 0xee, 0xee,
      0xee, 0xee, 0xee, 0xee, 0xee, 0xee, 0xee, 0xee, 0xee, 0xee, 0xee, 0xee, 0xee, 0xee, 0xee, 0xee, 0xee, 0xee,
      0xee, 0xee, 0xee, 0xee, 0xee, 0xee, 0xee, 0xee, 0xee, 0xee, 0xee, 0xee, 0xee, 0xee]) := by
  decide +kernel

theorem test_pminsb : ran (.pminsb { opd with dst := 1, src2 := 2 })
    (ee 0x2 |> vregs [(1, pack 8 [0x7f, 0x80, 0x0, 0xff, 0x7f, 0x80, 0x0, 0xff, 0x7f, 0x80, 0x0, 0xff, 0x7f, 0x80,
      0x0, 0xff, 0xee, 0xee, 0xee, 0xee, 0xee, 0xee, 0xee, 0xee, 0xee, 0xee, 0xee, 0xee, 0xee, 0xee, 0xee, 0xee,
      0xee, 0xee, 0xee, 0xee, 0xee, 0xee, 0xee, 0xee, 0xee, 0xee, 0xee, 0xee, 0xee, 0xee, 0xee, 0xee, 0xee, 0xee,
      0xee, 0xee, 0xee, 0xee, 0xee, 0xee, 0xee, 0xee, 0xee, 0xee, 0xee, 0xee, 0xee, 0xee]), (2, pack 8 (rep 4 [0x80,
      0x7f, 0xff, 0x0]))])
    (fun t => t.vreg 1) = some (pack 8 [0x80, 0x80, 0xff, 0xff, 0x80, 0x80, 0xff, 0xff, 0x80, 0x80, 0xff, 0xff, 0x80,
      0x80, 0xff, 0xff, 0xee, 0xee, 0xee, 0xee, 0xee, 0xee, 0xee, 0xee, 0xee, 0xee, 0xee, 0xee, 0xee, 0xee, 0xee,
      0xee, 0xee, 0xee, 0xee, 0xee, 0xee, 0xee, 0xee, 0xee, 0xee, 0xee, 0xee, 0xee, 0xee, 0xee, 0xee, 0xee, 0xee,
      0xee, 0xee, 0xee, 0xee, 0xee, 0xee, 0xee, 0xee, 0xee, 0xee, 0xee, 0xee, 0xee, 0xee, 0xee]) := by
  decide +kernel

theorem test_pmaxub : ran (.pmaxub { opd with dst := 1, src2 := 2 })
    (ee 0x2 |> vregs [(1, pack 8 [0x7f, 0x80, 0x0, 0xff, 0x7f, 0x80, 0x0, 0xff, 0x7f, 0x80, 0x0, 0xff, 0x7f, 0x80,
      0x0, 0xff, 0xee, 0xee, 0xee, 0xee, 0xee, 0xee, 0xee, 0xee, 0xee, 0xee, 0xee, 0xee, 0xee, 0xee, 0xee, 0xee,
      0xee, 0xee, 0xee, 0xee, 0xee, 0xee, 0xee, 0xee, 0xee, 0xee, 0xee, 0xee, 0xee, 0xee, 0xee, 0xee, 0xee, 0xee,
      0xee, 0xee, 0xee, 0xee, 0xee, 0xee, 0xee, 0xee, 0xee, 0xee, 0xee, 0xee, 0xee, 0xee]), (2, pack 8 (rep 4 [0x80,
      0x7f, 0xff, 0x0]))])
    (fun t => t.vreg 1) = some (pack 8 [0x80, 0x80, 0xff, 0xff, 0x80, 0x80, 0xff, 0xff, 0x80, 0x80, 0xff, 0xff, 0x80,
      0x80, 0xff, 0xff, 0xee, 0xee, 0xee, 0xee, 0xee, 0xee, 0xee, 0xee, 0xee, 0xee, 0xee, 0xee, 0xee, 0xee, 0xee,
      0xee, 0xee, 0xee, 0xee, 0xee, 0xee, 0xee, 0xee, 0xee, 0xee, 0xee, 0xee, 0xee, 0xee, 0xee, 0xee, 0xee, 0xee,
      0xee, 0xee, 0xee, 0xee, 0xee, 0xee, 0xee, 0xee, 0xee, 0xee, 0xee, 0xee, 0xee, 0xee, 0xee]) := by
  decide +kernel

theorem test_pmaxud : ran (.pmaxud { opd with dst := 1, src2 := 2 })
    (ee 0x2 |> vregs [(1, pack 32 [0x7fffffff, 0x80000000, 0x0, 0x3, 0xeeeeeeee, 0xeeeeeeee, 0xeeeeeeee, 0xeeeeeeee,
      0xeeeeeeee, 0xeeeeeeee, 0xeeeeeeee, 0xeeeeeeee, 0xeeeeeeee, 0xeeeeeeee, 0xeeeeeeee, 0xeeeeeeee]), (2, pack 32
      [0x80000000, 0x7fffffff, 0x1, 0x2])])
    (fun t => t.vreg 1) = some (pack 32 [0x80000000, 0x80000000, 0x1, 0x3, 0xeeeeeeee, 0xeeeeeeee, 0xeeeeeeee,
      0xeeeeeeee, 0xeeeeeeee, 0xeeeeeeee, 0xeeeeeeee, 0xeeeeeeee, 0xeeeeeeee, 0xeeeeeeee, 0xeeeeeeee, 0xeeeeeeee]) :=
      by
  decide +kernel

theorem test_pminsw : ran (.pminsw { opd with dst := 1, src2 := 2 })
    (ee 0x2 |> vregs [(1, pack 16 [0x7fff, 0x8000, 0x7fff, 0x8000, 0x7fff, 0x8000, 0x7fff, 0x8000, 0xeeee, 0xeeee,
      0xeeee, 0xeeee, 0xeeee, 0xeeee, 0xeeee, 0xeeee, 0xeeee, 0xeeee, 0xeeee, 0xeeee, 0xeeee, 0xeeee, 0xeeee, 0xeeee,
      0xeeee, 0xeeee, 0xeeee, 0xeeee, 0xeeee, 0xeeee, 0xeeee, 0xeeee]), (2, pack 16 (rep 4 [0x8000, 0x7fff]))])
    (fun t => t.vreg 1) = some (pack 16 [0x8000, 0x8000, 0x8000, 0x8000, 0x8000, 0x8000, 0x8000, 0x8000, 0xeeee,
      0xeeee, 0xeeee, 0xeeee, 0xeeee, 0xeeee, 0xeeee, 0xeeee, 0xeeee, 0xeeee, 0xeeee, 0xeeee, 0xeeee, 0xeeee, 0xeeee,
      0xeeee, 0xeeee, 0xeeee, 0xeeee, 0xeeee, 0xeeee, 0xeeee, 0xeeee, 0xeeee]) := by
  decide +kernel

theorem test_psllwI : ran (.psllwI { opd with dst := 1, imm := 0x10 })
    (ee 0x2 |> vregs [(1, pack 16 [0x1234, 0x1234, 0x1234, 0x1234, 0x1234, 0x1234, 0x1234, 0x1234, 0xeeee, 0xeeee,
      0xeeee, 0xeeee, 0xeeee, 0xeeee, 0xeeee, 0xeeee, 0xeeee, 0xeeee, 0xeeee, 0xeeee, 0xeeee, 0xeeee, 0xeeee, 0xeeee,
      0xeeee, 0xeeee, 0xeeee, 0xeeee, 0xeeee, 0xeeee, 0xeeee, 0xeeee])])
    (fun t => t.vreg 1) = some (pack 16 [0x0, 0x0, 0x0, 0x0, 0x0, 0x0, 0x0, 0x0, 0xeeee, 0xeeee, 0xeeee, 0xeeee,
      0xeeee, 0xeeee, 0xeeee, 0xeeee, 0xeeee, 0xeeee, 0xeeee, 0xeeee, 0xeeee, 0xeeee, 0xeeee, 0xeeee, 0xeeee, 0xeeee,
      0xeeee, 0xeeee, 0xeeee, 0xeeee, 0xeeee, 0xeeee]) := by
  decide +kernel

theorem test_psrldI : ran (.psrldI { opd with dst := 1, imm := 0x1f })
    (ee 0x2 |> vregs [(1, pack 32 [0x80000000, 0x80000000, 0x80000000, 0x80000000, 0xeeeeeeee, 0xeeeeeeee,
      0xeeeeeeee, 0xeeeeeeee, 0xeeeeeeee, 0xeeeeeeee, 0xeeeeeeee, 0xeeeeeeee, 0xeeeeeeee, 0xeeeeeeee, 0xeeeeeeee,
      0xeeeeeeee])])
    (fun t => t.vreg 1) = some (pack 32 [0x1, 0x1, 0x1, 0x1, 0xeeeeeeee, 0xeeeeeeee, 0xeeeeeeee, 0xeeeeeeee,
      0xeeeeeeee, 0xeeeeeeee, 0xeeeeeeee, 0xeeeeeeee, 0xeeeeeeee, 0xeeeeeeee, 0xeeeeeeee, 0xeeeeeeee]) := by
  decide +kernel

theorem test_psrawI : ran (.psrawI { opd with dst := 1, imm := 0xc8 })
    (ee 0x2 |> vregs [(1, pack 16 [0x8000, 0x7fff, 0x8000, 0x7fff, 0x8000, 0x7fff, 0x8000, 0x7fff, 0xeeee, 0xeeee,
      0xeeee, 0xeeee, 0xeeee, 0xeeee, 0xeeee, 0xeeee, 0xeeee, 0xeeee, 0xeeee, 0xeeee, 0xeeee, 0xeeee, 0xeeee, 0xeeee,
      0xeeee, 0xeeee, 0xeeee, 0xeeee, 0xeeee, 0xeeee, 0xeeee, 0xeeee])])
    (fun t => t.vreg 1) = some (pack 16 [0xffff, 0x0, 0xffff, 0x0, 0xffff, 0x0, 0xffff, 0x0, 0xeeee, 0xeeee, 0xeeee,
      0xeeee, 0xeeee, 0xeeee, 0xeeee, 0xeeee, 0xeeee, 0xeeee, 0xeeee, 0xeeee, 0xeeee, 0xeeee, 0xeeee, 0xeeee, 0xeeee,
      0xeeee, 0xeeee, 0xeeee, 0xeeee, 0xeeee, 0xeeee, 0xeeee]) := by
  decide +kernel

theorem test_pshufd : ran (.pshufd { opd with dst := 1, src2 := 2, imm := 0x1b })
    (ee 0x2 |> vregs [(1, pack 32 [0x0, 0x0, 0x0, 0x0, 0xeeeeeeee, 0xeeeeeeee, 0xeeeeeeee, 0xeeeeeeee, 0xeeeeeeee,
      0xeeeeeeee, 0xeeeeeeee, 0xeeeeeeee, 0xeeeeeeee, 0xeeeeeeee, 0xeeeeeeee, 0xeeeeeeee]), (2, pack 32 [0xa, 0xb,
      0xc, 0xd])])
    (fun t => t.vreg 1) = some (pack 32 [0xd, 0xc, 0xb, 0xa, 0xeeeeeeee, 0xeeeeeeee, 0xeeeeeeee, 0xeeeeeeee,
      0xeeeeeeee, 0xeeeeeeee, 0xeeeeeeee, 0xeeeeeeee, 0xeeeeeeee, 0xeeeeeeee, 0xeeeeeeee, 0xeeeeeeee]) := by
  decide +kernel

theorem test_pshufb : ran (.pshufb { opd with dst := 1, src2 := 2 })
    (ee 0x2 |> vregs [(1, pack 8 [0xa0, 0xa1, 0xa2, 0xa3, 0xa4, 0xa5, 0xa6, 0xa7, 0xa8, 0xa9, 0xaa, 0xab, 0xac, 0xad,
      0xae, 0xaf, 0xee, 0xee, 0xee, 0xee, 0xee, 0xee, 0xee, 0xee, 0xee, 0xee, 0xee, 0xee, 0xee, 0xee, 0xee, 0xee,
      0xee, 0xee, 0xee, 0xee, 0xee, 0xee, 0xee, 0xee, 0xee, 0xee, 0xee, 0xee, 0xee, 0xee, 0xee, 0xee, 0xee, 0xee,
      0xee, 0xee, 0xee, 0xee, 0xee, 0xee, 0xee, 0xee, 0xee, 0xee, 0xee, 0xee, 0xee, 0xee]), (2, pack 8 (rep 4 [0x80,
      0x7f, 0x10, 0xff]))])
    (fun t => t.vreg 1) = some (pack 8 [0x0, 0xaf, 0xa0, 0x0, 0x0, 0xaf, 0xa0, 0x0, 0x0, 0xaf, 0xa0, 0x0, 0x0, 0xaf,
      0xa0, 0x0, 0xee, 0xee, 0xee, 0xee, 0xee, 0xee, 0xee, 0xee, 0xee, 0xee, 0xee, 0xee, 0xee, 0xee, 0xee, 0xee,
      0xee, 0xee, 0xee, 0xee, 0xee, 0xee, 0xee, 0xee, 0xee, 0xee, 0xee, 0xee, 0xee, 0xee, 0xee, 0xee, 0xee, 0xee,
      0xee, 0xee, 0xee, 0xee, 0xee, 0xee, 0xee, 0xee, 0xee, 0xee, 0xee, 0xee, 0xee, 0xee]) := by
  decide +kernel

theorem test_movdquLd : ran (.movdquLd { opd with dst := 1, src2 := 2 })
    (ee 0x2 |> vregs [(1, filled), (2, pack 32 [0x1, 0x2, 0x3, 0x4, 0x5, 0x6, 0x7, 0x8])])
    (fun t => t.vreg 1) = some (pack 32 [0x1, 0x2, 0x3, 0x4, 0xeeeeeeee, 0xeeeeeeee, 0xeeeeeeee, 0xeeeeeeee,
      0xeeeeeeee, 0xeeeeeeee, 0xeeeeeeee, 0xeeeeeeee, 0xeeeeeeee, 0xeeeeeeee, 0xeeeeeeee, 0xeeeeeeee]) := by
  decide +kernel

theorem test_movdquSt : ran (.movdquSt { opd with src2 := 2, memform := true, addr := 0x6010 })
    (ee 0x2 |> vregs [(2, pack 32 [0x1, 0x2, 0x3, 0x4, 0x5, 0x6, 0x7, 0x8])])
    (fun t => Memory.readBytes t.mem 0x6010 16) = some 0x4000000030000000200000001#512 := by
  decide +kernel

theorem test_vpaddd : ran (.vpaddd { opd with dst := 1, src1 := 2, src2 := 3, opmask := 2 })
    (ee 0x2 |> vregs [(1, filled), (2, pack 32 [0x1, 0x2, 0x3, 0x4, 0x5, 0x6, 0x7, 0x8, 0x9, 0xa, 0xb, 0xc, 0xd, 0xe,
      0xf, 0x10]), (3, pack 32 (rep 16 [0x10]))] |> kregs [(2, 0x5)])
    (fun t => t.vreg 1) = some (pack 32 [0x11, 0xeeeeeeee, 0x13, 0xeeeeeeee, 0xeeeeeeee, 0xeeeeeeee, 0xeeeeeeee,
      0xeeeeeeee, 0xeeeeeeee, 0xeeeeeeee, 0xeeeeeeee, 0xeeeeeeee, 0xeeeeeeee, 0xeeeeeeee, 0xeeeeeeee, 0xeeeeeeee]) :=
      by
  decide +kernel

theorem test_vpaddd_2 : ran (.vpaddd { opd with dst := 1, src1 := 2, src2 := 3, opmask := 2, zmask := true })
    (ee 0x2 |> vregs [(1, filled), (2, pack 32 [0x1, 0x2, 0x3, 0x4, 0x5, 0x6, 0x7, 0x8, 0x9, 0xa, 0xb, 0xc, 0xd, 0xe,
      0xf, 0x10]), (3, pack 32 (rep 16 [0x10]))] |> kregs [(2, 0x5)])
    (fun t => t.vreg 1) = some (pack 32 [0x11, 0x0, 0x13, 0x0]) := by
  decide +kernel

theorem test_vpaddq : ran (.vpaddq { opd with dst := 1, src1 := 2, src2 := 3, opmask := 1, zmask := true })
    (ee 0x2 |> vregs [(1, filled), (2, pack 64 [0x200000001, 0x400000003, 0x600000005, 0x800000007, 0xa00000009,
      0xc0000000b, 0xe0000000d, 0x100000000f]), (3, pack 64 (rep 8 [0x1000000010]))] |> kregs [(1, 0x2)])
    (fun t => t.vreg 1) = some (pack 64 [0x0, 0x1400000013]) := by
  decide +kernel

theorem test_vpandq : ran (.vpandq { opd with dst := 1, src1 := 2, src2 := 3, opmask := 1, zmask := true })
    (ee 0x2 |> vregs [(1, filled), (2, pack 64 [0x200000001, 0x400000003, 0x600000005, 0x800000007, 0xa00000009,
      0xc0000000b, 0xe0000000d, 0x100000000f]), (3, pack 64 (rep 2 [0xffffffffffffffff]))] |> kregs [(1, 0x3)])
    (fun t => t.vreg 1) = some (pack 64 [0x200000001, 0x400000003]) := by
  decide +kernel

theorem test_vpsubb : ran (.vpsubb { opd with dst := 1, src1 := 2, src2 := 3 })
    (ee 0x2 |> vregs [(1, filled), (2, pack 8 (rep 2 [0x7f, 0x80, 0xff, 0x0, 0x1, 0x5, 0x7e, 0x10])), (3, pack 8 (rep
      2 [0x1, 0x7f, 0x0, 0x0, 0xff, 0x5, 0x80, 0x3]))])
    (fun t => t.vreg 1) = some (pack 8 (rep 2 [0x7e, 0x1, 0xff, 0x0, 0x2, 0x0, 0xfe, 0xd])) := by
  decide +kernel

theorem test_vpandnd : ran (.vpandnd { opd with dst := 1, src1 := 2, src2 := 3 })
    (ee 0x2 |> vregs [(1, filled), (2, pack 32 [0x1, 0x2, 0x3, 0x4, 0x5, 0x6, 0x7, 0x8, 0x9, 0xa, 0xb, 0xc, 0xd, 0xe,
      0xf, 0x10]), (3, pack 32 (rep 16 [0x10]))])
    (fun t => t.vreg 1) = some (pack 32 (rep 4 [0x10])) := by
  decide +kernel

theorem test_vpord : ran (.vpord { opd with dst := 1, src1 := 2, src2 := 3 })
    (ee 0x2 |> vregs [(1, filled), (2, pack 32 [0x1, 0x2, 0x3, 0x4, 0x5, 0x6, 0x7, 0x8, 0x9, 0xa, 0xb, 0xc, 0xd, 0xe,
      0xf, 0x10]), (3, pack 32 (rep 16 [0x10]))])
    (fun t => t.vreg 1) = some (pack 32 [0x11, 0x12, 0x13, 0x14]) := by
  decide +kernel

theorem test_vpxorq : ran (.vpxorq { opd with dst := 1, src1 := 2, src2 := 3 })
    (ee 0x2 |> vregs [(1, filled), (2, pack 64 [0x200000001, 0x400000003, 0x600000005, 0x800000007, 0xa00000009,
      0xc0000000b, 0xe0000000d, 0x100000000f]), (3, pack 64 (rep 8 [0x1000000010]))])
    (fun t => t.vreg 1) = some (pack 64 [0x1200000011, 0x1400000013]) := by
  decide +kernel

theorem test_vpcmpeqd : ran (.vpcmpeqd { opd with dst := 1, src1 := 2, src2 := 3 })
    (ee 0x2 |> vregs [(1, filled), (2, pack 32 [0x1, 0x2, 0x3, 0x4, 0x5, 0x6, 0x7, 0x8, 0x9, 0xa, 0xb, 0xc, 0xd, 0xe,
      0xf, 0x10]), (3, pack 32 [0x1, 0x0, 0x3, 0x0])])
    (fun t => t.vreg 1) = some (pack 32 (rep 2 [0xffffffff, 0x0])) := by
  decide +kernel

theorem test_vpcmpgtb : ran (.vpcmpgtb { opd with dst := 1, src1 := 2, src2 := 3 })
    (ee 0x2 |> vregs [(1, filled), (2, pack 8 (rep 4 [0x7f, 0x80, 0x7f, 0x0])), (3, pack 8 (rep 4 [0x80, 0x7f, 0x7f,
      0xff]))])
    (fun t => t.vreg 1) = some (pack 8 (rep 4 [0xff, 0x0, 0x0, 0xff])) := by
  decide +kernel

theorem test_vpminsq : ran (.vpminsq { opd with dst := 1, src1 := 2, src2 := 3 })
    (ee 0x2 |> vregs [(1, filled), (2, pack 64 [0x8000000000000000, 0x5]), (3, pack 64 [0x7fffffffffffffff,
      0xffffffffffffffff])])
    (fun t => t.vreg 1) = some (pack 64 [0x8000000000000000, 0xffffffffffffffff]) := by
  decide +kernel

theorem test_vpminud : ran (.vpminud { opd with dst := 1, src1 := 2, src2 := 3 })
    (ee 0x2 |> vregs [(1, filled), (2, pack 32 [0x7fffffff, 0x80000000, 0x0, 0xffffffff]), (3, pack 32 [0x80000000,
      0x7fffffff, 0xffffffff, 0x0])])
    (fun t => t.vreg 1) = some (pack 32 [0x7fffffff, 0x7fffffff, 0x0, 0x0]) := by
  decide +kernel

theorem test_vpmaxsq : ran (.vpmaxsq { opd with dst := 1, src1 := 2, src2 := 3, vl := 1 })
    (ee 0x2 |> vregs [(1, filled), (2, pack 64 [0x7fffffffffffffff, 0x8000000000000000, 0xffffffffffffffff, 0x0]),
      (3, pack 64 [0x1, 0x7fffffffffffffff])])
    (fun t => t.vreg 1) = some (pack 64 (rep 2 [0x7fffffffffffffff])) := by
  decide +kernel

theorem test_vpmaxud : ran (.vpmaxud { opd with dst := 1, src1 := 2, src2 := 3 })
    (ee 0x2 |> vregs [(1, filled), (2, pack 32 [0x7fffffff, 0x80000000, 0x0, 0xffffffff]), (3, pack 32 [0x80000000,
      0x7fffffff, 0xffffffff, 0x0])])
    (fun t => t.vreg 1) = some (pack 32 [0x80000000, 0x80000000, 0xffffffff, 0xffffffff]) := by
  decide +kernel

theorem test_vpslldI : ran (.vpslldI { opd with dst := 1, src2 := 2, imm := 0x20 })
    (ee 0x2 |> vregs [(1, filled), (2, pack 32 [0x1, 0x2, 0x3, 0x4, 0x5, 0x6, 0x7, 0x8, 0x9, 0xa, 0xb, 0xc, 0xd, 0xe,
      0xf, 0x10])])
    (fun t => t.vreg 1) = some (pack 32 (rep 4 [0x0])) := by
  decide +kernel

theorem test_vpsrlwI : ran (.vpsrlwI { opd with dst := 1, src2 := 2, imm := 0x1 })
    (ee 0x2 |> vregs [(1, filled), (2, pack 16 (rep 8 [0x8001]))])
    (fun t => t.vreg 1) = some (pack 16 (rep 8 [0x4000])) := by
  decide +kernel

theorem test_vpsraqI : ran (.vpsraqI { opd with dst := 1, src2 := 2, imm := 0x41 })
    (ee 0x2 |> vregs [(1, filled), (2, pack 64 [0x8000000000000000, 0x1])])
    (fun t => t.vreg 1) = some (pack 64 [0xffffffffffffffff, 0x0]) := by
  decide +kernel

theorem test_vpsradI : ran (.vpsradI { opd with dst := 1, src2 := 2, opmask := 1, zmask := true, imm := 0x1 })
    (ee 0x2 |> vregs [(1, filled), (2, pack 32 [0x80000000, 0x2, 0x4, 0xfffffffe])] |> kregs [(1, 0x9)])
    (fun t => t.vreg 1) = some (pack 32 [0xc0000000, 0x0, 0x0, 0xffffffff]) := by
  decide +kernel

theorem test_vpsllvd : ran (.vpsllvd { opd with dst := 1, src1 := 2, src2 := 3 })
    (ee 0x2 |> vregs [(1, filled), (2, pack 32 (rep 4 [0x1])), (3, pack 32 [0xffffffff, 0x4, 0x100, 0x1f])])
    (fun t => t.vreg 1) = some (pack 32 [0x0, 0x10, 0x0, 0x80000000]) := by
  decide +kernel

theorem test_vpsrlvd : ran (.vpsrlvd { opd with dst := 1, src1 := 2, src2 := 3 })
    (ee 0x2 |> vregs [(1, filled), (2, pack 32 (rep 4 [0x80000000])), (3, pack 32 [0x0, 0x1f, 0x20, 0x4])])
    (fun t => t.vreg 1) = some (pack 32 [0x80000000, 0x1, 0x0, 0x8000000]) := by
  decide +kernel

theorem test_vpsravd : ran (.vpsravd { opd with dst := 1, src1 := 2, src2 := 3 })
    (ee 0x2 |> vregs [(1, filled), (2, pack 32 [0x80000000, 0x80000000, 0x7fffffff, 0x80000000]), (3, pack 32 [0x4,
      0x20, 0x63, 0x1f])])
    (fun t => t.vreg 1) = some (pack 32 [0xf8000000, 0xffffffff, 0x0, 0xffffffff]) := by
  decide +kernel

theorem test_vpshufd : ran (.vpshufd { opd with dst := 1, src2 := 2, vl := 1, imm := 0x1b })
    (ee 0x2 |> vregs [(1, filled), (2, pack 32 [0x1, 0x2, 0x3, 0x4, 0x5, 0x6, 0x7, 0x8, 0x9, 0xa, 0xb, 0xc, 0xd, 0xe,
      0xf, 0x10])])
    (fun t => t.vreg 1) = some (pack 32 [0x4, 0x3, 0x2, 0x1, 0x8, 0x7, 0x6, 0x5]) := by
  decide +kernel

theorem test_vpshufb : ran (.vpshufb { opd with dst := 1, src1 := 2, src2 := 3, vl := 1 })
    (ee 0x2 |> vregs [(1, filled), (2, pack 8 [0x0, 0x1, 0x2, 0x3, 0x4, 0x5, 0x6, 0x7, 0x8, 0x9, 0xa, 0xb, 0xc, 0xd,
      0xe, 0xf, 0x10, 0x11, 0x12, 0x13, 0x14, 0x15, 0x16, 0x17, 0x18, 0x19, 0x1a, 0x1b, 0x1c, 0x1d, 0x1e, 0x1f]), (3,
      pack 8 [0xf, 0xe, 0xd, 0xc, 0xb, 0xa, 0x9, 0x8, 0x7, 0x6, 0x5, 0x4, 0x3, 0x2, 0x1, 0x0, 0xf, 0xe, 0xd, 0xc,
      0xb, 0xa, 0x9, 0x8, 0x7, 0x6, 0x5, 0x4, 0x3, 0x2, 0x1, 0x0])])
    (fun t => t.vreg 1) = some (pack 8 [0xf, 0xe, 0xd, 0xc, 0xb, 0xa, 0x9, 0x8, 0x7, 0x6, 0x5, 0x4, 0x3, 0x2, 0x1,
      0x0, 0x1f, 0x1e, 0x1d, 0x1c, 0x1b, 0x1a, 0x19, 0x18, 0x17, 0x16, 0x15, 0x14, 0x13, 0x12, 0x11, 0x10]) := by
  decide +kernel

theorem test_vmovdqu32Ld : ran (.vmovdqu32Ld { opd with dst := 1, opmask := 1, memform := true, addr := 0x7000 })
    (ee 0x2 |> vregs [(1, filled)] |> kregs [(1, 0x5)] |> bytes [(0x7000, 16, 0x1900000012c000000c800000064)])
    (fun t => t.vreg 1) = some (pack 32 [0x64, 0xeeeeeeee, 0x12c, 0xeeeeeeee, 0xeeeeeeee, 0xeeeeeeee, 0xeeeeeeee,
      0xeeeeeeee, 0xeeeeeeee, 0xeeeeeeee, 0xeeeeeeee, 0xeeeeeeee, 0xeeeeeeee, 0xeeeeeeee, 0xeeeeeeee, 0xeeeeeeee]) :=
      by
  decide +kernel

theorem test_vmovdqu64Ld : ran (.vmovdqu64Ld { opd with dst := 1, src2 := 2, vl := 1, opmask := 3, zmask := true })
    (ee 0x2 |> vregs [(1, filled), (2, pack 64 [0x7, 0x8, 0x9, 0xa])] |> kregs [(3, 0x6)])
    (fun t => t.vreg 1) = some (pack 64 [0x0, 0x8, 0x9, 0x0]) := by
  decide +kernel

theorem test_vmovdqu8St : ran (.vmovdqu8St { opd with src2 := 2, opmask := 1, memform := true, addr := 0x7100 })
    (ee 0x2 |> vregs [(2, pack 8 [0xb0, 0xb1, 0xb2, 0xb3, 0xb4, 0xb5, 0xb6, 0xb7, 0xb8, 0xb9, 0xba, 0xbb, 0xbc, 0xbd,
      0xbe, 0xbf])] |> kregs [(1, 0x8001)])
    (fun t => (Memory.readBytes t.mem 0x7100 1, Memory.readBytes t.mem 0x710f 1)) = some (0xb0#512, 0xbf#512) := by
  decide +kernel

theorem test_vmovdqu64St : ran (.vmovdqu64St { opd with src2 := 2, vl := 1, opmask := 1, memform := true, addr :=
    0x7100 })
    (ee 0x2 |> vregs [(2, pack 64 [0x7fffffffffffffff, 0x8000000000000000, 0xffffffffffffffff, 0x0])] |> kregs [(1,
      0x5)])
    (fun t => (Memory.readBytes t.mem 0x7100 8, Memory.readBytes t.mem 0x7110 8)) = some (0x7fffffffffffffff#512,
      0xffffffffffffffff#512) := by
  decide +kernel

theorem test_vpcmpd : ran (.vpcmpd { opd with dst := 1, src1 := 2, src2 := 3, imm := 0x1 })
    (ee 0x2 |> vregs [(1, filled), (2, pack 32 [0x1, 0x2, 0x3, 0x4]), (3, pack 32 [0x4, 0x3, 0x3, 0x0])])
    (fun t => t.kreg 1) = some 0x3#64 := by
  decide +kernel

theorem test_vpcmpub : ran (.vpcmpub { opd with dst := 1, src1 := 2, src2 := 3, imm := 0x6 })
    (ee 0x2 |> vregs [(1, filled), (2, pack 8 (rep 16 [0x80])), (3, pack 8 (rep 16 [0x7f]))])
    (fun t => t.kreg 1) = some 0xffff#64 := by
  decide +kernel

theorem test_vpcmpq : ran (.vpcmpq { opd with dst := 3, src1 := 2, memform := true, imm := 0x1, addr := 0x7200 })
    (ee 0x2 |> vregs [(2, pack 64 [0x8000000000000000, 0x0])] |> bytes [(0x7200, 16,
      0x80000000000000000000000000000000)])
    (fun t => t.kreg 3) = some 0x1#64 := by
  decide +kernel

theorem test_vpcompressd : ran (.vpcompressd { opd with dst := 1, src2 := 2, opmask := 1, zmask := true })
    (ee 0x2 |> vregs [(1, filled), (2, pack 32 [0xa, 0xb, 0xc, 0xd])] |> kregs [(1, 0xa)])
    (fun t => t.vreg 1) = some (pack 32 [0xb, 0xd, 0x0, 0x0]) := by
  decide +kernel

theorem test_vpcompressd_2 : ran (.vpcompressd { opd with dst := 1, src2 := 2 })
    (ee 0x2 |> vregs [(1, filled), (2, pack 32 [0xa, 0xb, 0xc, 0xd])])
    (fun t => t.vreg 1) = some (pack 32 [0xa, 0xb, 0xc, 0xd]) := by
  decide +kernel

theorem test_vpcompressb : ran (.vpcompressb { opd with dst := 1, src2 := 2, opmask := 1, zmask := true })
    (ee 0x2 |> vregs [(1, filled), (2, pack 8 [0xc0, 0xc1, 0xc2, 0xc3, 0xc4, 0xc5, 0xc6, 0xc7, 0xc8, 0xc9, 0xca,
      0xcb, 0xcc, 0xcd, 0xce, 0xcf])] |> kregs [(1, 0x8421)])
    (fun t => t.vreg 1) = some (pack 8 [0xc0, 0xc5, 0xca, 0xcf, 0x0, 0x0, 0x0, 0x0, 0x0, 0x0, 0x0, 0x0, 0x0, 0x0,
      0x0, 0x0]) := by
  decide +kernel

theorem test_vpexpandd : ran (.vpexpandd { opd with dst := 1, src2 := 2, opmask := 1, zmask := true })
    (ee 0x2 |> vregs [(1, filled), (2, pack 32 [0xb, 0xd, 0x0, 0x0])] |> kregs [(1, 0xa)])
    (fun t => t.vreg 1) = some (pack 32 [0x0, 0xb, 0x0, 0xd]) := by
  decide +kernel

theorem test_vpexpandd_2 : ran (.vpexpandd { opd with dst := 1, opmask := 1, zmask := true, memform := true, addr :=
    0x7400 })
    (ee 0x2 |> vregs [(1, filled)] |> kregs [(1, 0x0)] |> faultAt 0x7400)
    (fun t => t.vreg 1) = some (pack 32 (rep 4 [0x0])) := by
  decide +kernel

theorem test_vpermd : ran (.vpermd { opd with dst := 1, src1 := 2, src2 := 3, vl := 2 })
    (ee 0x2 |> vregs [(1, filled), (2, pack 32 [0xffffffff, 0x0, 0x0, 0x0]), (3, pack 32 [0x64, 0x65, 0x66, 0x67,
      0x68, 0x69, 0x6a, 0x6b, 0x6c, 0x6d, 0x6e, 0x6f, 0x70, 0x71, 0x72, 0x73])])
    (fun t => t.vreg 1) = some (pack 32 [0x73, 0x64, 0x64, 0x64, 0x64, 0x64, 0x64, 0x64, 0x64, 0x64, 0x64, 0x64,
      0x64, 0x64, 0x64, 0x64]) := by
  decide +kernel

theorem test_vpermq : ran (.vpermq { opd with dst := 1, src1 := 2, src2 := 3, vl := 1, opmask := 1, zmask := true })
    (ee 0x2 |> vregs [(1, filled), (2, pack 64 [0x3, 0x3, 0x0, 0x5]), (3, pack 64 [0x32, 0x33, 0x34, 0x35])] |> kregs
      [(1, 0x7)])
    (fun t => t.vreg 1) = some (pack 64 [0x35, 0x35, 0x32, 0x0]) := by
  decide +kernel

theorem test_vpermb : ran (.vpermb { opd with dst := 1, src1 := 2, src2 := 3 })
    (ee 0x2 |> vregs [(1, filled), (2, pack 8 [0xf, 0x1e, 0x2d, 0xc, 0x1b, 0x2a, 0x9, 0x18, 0x27, 0x6, 0x15, 0x24,
      0x3, 0x12, 0x21, 0x0]), (3, pack 8 [0xd0, 0xd1, 0xd2, 0xd3, 0xd4, 0xd5, 0xd6, 0xd7, 0xd8, 0xd9, 0xda, 0xdb,
      0xdc, 0xdd, 0xde, 0xdf])])
    (fun t => t.vreg 1) = some (pack 8 [0xdf, 0xde, 0xdd, 0xdc, 0xdb, 0xda, 0xd9, 0xd8, 0xd7, 0xd6, 0xd5, 0xd4, 0xd3,
      0xd2, 0xd1, 0xd0]) := by
  decide +kernel

theorem test_valignd : ran (.valignd { opd with dst := 1, src1 := 2, src2 := 3, imm := 0xff })
    (ee 0x2 |> vregs [(1, filled), (2, pack 32 [0x14, 0x15, 0x16, 0x17]), (3, pack 32 [0xa, 0xb, 0xc, 0xd])])
    (fun t => t.vreg 1) = some (pack 32 [0xd, 0x14, 0x15, 0x16]) := by
  decide +kernel

theorem test_valignq : ran (.valignq { opd with dst := 1, src1 := 2, src2 := 3, opmask := 1, zmask := true, imm :=
    0x1 })
    (ee 0x2 |> vregs [(1, filled), (2, pack 64 [0x3c, 0x3d]), (3, pack 64 [0x32, 0x33])] |> kregs [(1, 0x2)])
    (fun t => t.vreg 1) = some (pack 64 [0x0, 0x3c]) := by
  decide +kernel

theorem test_kmovbKg : ran (.kmovbKg { opd with src1 := 3 })
    (ee 0x2 |> gprs [(3, 0x1ff)] |> kregs [(0, 0xffffffffffffffff)])
    (fun t => t.kreg 0) = some 0xff#64 := by
  decide +kernel

theorem test_kmovdKg : ran (.kmovdKg { opd with dst := 7, src1 := 3 })
    (ee 0x2 |> gprs [(3, 0xffffffffffffffff)])
    (fun t => t.kreg 7) = some 0xffffffff#64 := by
  decide +kernel

theorem test_kmovwGk : ran (.kmovwGk { opd with dst := 5, src1 := 2 })
    (ee 0x2 |> gprs [(5, 0x1122334455667788)] |> kregs [(2, 0xffffffffffffffff)])
    (fun t => t.gpr 5) = some 0xffff#64 := by
  decide +kernel

theorem test_kmovqGk : ran (.kmovqGk { opd with dst := 5, src1 := 2 })
    (ee 0x2 |> kregs [(2, 0x8000000000000001)])
    (fun t => t.gpr 5) = some 0x8000000000000001#64 := by
  decide +kernel

theorem test_vpcomq : ran (.vpcomq { opd with dst := 1, src1 := 2, src2 := 3, imm := 0xfa })
    (ee 0x2 |> vregs [(1, filled), (2, pack 64 [0x8000000000000000, 0x0]), (3, pack 64 [0x0, 0x8000000000000000])])
    (fun t => t.vreg 1) = some (pack 64 [0x0, 0xffffffffffffffff]) := by
  decide +kernel

theorem test_vpcomuq : ran (.vpcomuq { opd with dst := 1, src1 := 2, src2 := 3, imm := 0x2 })
    (ee 0x2 |> vregs [(1, filled), (2, pack 64 [0x8000000000000000, 0x0]), (3, pack 64 [0x0, 0x8000000000000000])])
    (fun t => t.vreg 1) = some (pack 64 [0xffffffffffffffff, 0x0]) := by
  decide +kernel

theorem test_vpperm : ran (.vpperm { opd with dst := 1, src1 := 2, src2 := 3, src3 := 4 })
    (ee 0x2 |> vregs [(1, filled), (2, pack 8 [0x10, 0x11, 0x12, 0x81, 0x14, 0x15, 0x16, 0x17, 0x18, 0x19, 0x1a,
      0x1b, 0x1c, 0x1d, 0x1e, 0x1f]), (3, pack 8 [0x20, 0x21, 0x22, 0x1, 0x24, 0x25, 0x26, 0x27, 0x28, 0x29, 0x2a,
      0x2b, 0x2c, 0x2d, 0x2e, 0x2f]), (4, pack 8 [0x3, 0x23, 0x43, 0x63, 0x83, 0xa3, 0xc3, 0xe3, 0x13, 0x33, 0x53,
      0x73, 0x93, 0xb3, 0xd3, 0xf3])])
    (fun t => t.vreg 1) = some (pack 8 [0x1, 0xfe, 0x80, 0x7f, 0x0, 0xff, 0x0, 0xff, 0x81, 0x7e, 0x81, 0x7e, 0x0,
      0xff, 0xff, 0x0]) := by
  decide +kernel

theorem test_vpcmov : ran (.vpcmov { opd with dst := 1, src1 := 2, src2 := 3, src3 := 4 })
    (ee 0x2 |> vregs [(1, filled), (2, pack 64 (rep 2 [0xffffffffffffffff])), (3, pack 64 (rep 2 [0x0])), (4, pack 64
      (rep 2 [0xff00ff00ff00ff]))])
    (fun t => t.vreg 1) = some (pack 64 (rep 2 [0xff00ff00ff00ff])) := by
  decide +kernel

/-! Multiply-accumulate: rows of spec/96_test_vectors_simd.md 2.8, element 0 of the result. -/

/-- `V[2]`, `V[3]`, `V[4]` hold the sources; the answer is all of `V[1]`. -/
def macOf (make : Desc → Instr) (wa wc : Nat) (a b c : List Nat) : Option Packed :=
  ran (make { opd with dst := 1, src1 := 2, src2 := 3, src3 := 4 })
    (ee 2 |> vregs [(1, filled), (2, pack wa a), (3, pack wa b), (4, pack wc c)]) (fun t => t.vreg 1)

theorem test_vpmacssww : macOf .vpmacssww 16 16 [0x7FFF] [1] [0x7FFF] = some 0x7FFF#512 := by
  decide +kernel

theorem test_vpmacsww : macOf .vpmacsww 16 16 [0x7FFF] [1] [0x7FFF] = some 0xFFFE#512 := by
  decide +kernel

theorem test_vpmacsswd : macOf .vpmacsswd 16 32 [0, 0x8000] [0, 0x7FFF] [0x80000000] = some 0x80000000#512 := by
  decide +kernel

theorem test_vpmacswd : macOf .vpmacswd 16 32 [0x7777, 3] [0x7777, 0xFFFE] [10] = some 4#512 := by
  decide +kernel

theorem test_vpmadcsswd : macOf .vpmadcsswd 16 32 [0x8000, 0x8000] [0x8000, 0x8000] [0] = some 0x7FFFFFFF#512 := by
  decide +kernel

theorem test_vpmadcswd : macOf .vpmadcswd 16 32 [0x8000, 0x7FFF] [0x7FFF, 0x8000] [0x80000000] = some 0x00010000#512 := by
  decide +kernel

theorem test_vpmacssdd : macOf .vpmacssdd 32 32 [0x80000000] [1] [0x80000000] = some 0x80000000#512 := by
  decide +kernel

theorem test_vpmacsdd : macOf .vpmacsdd 32 32 [0x10000] [0x10000] [7] = some 7#512 := by
  decide +kernel

theorem test_vpmacssdql : macOf .vpmacssdql 32 64 [0x80000000, 0] [0x80000000, 0] [0x7FFFFFFFFFFFFFFF] = some 0x7FFFFFFFFFFFFFFF#512 := by
  decide +kernel

theorem test_vpmacsdql : macOf .vpmacsdql 32 64 [0xFFFFFFFF] [2] [0] = some 0xFFFFFFFFFFFFFFFE#512 := by
  decide +kernel

theorem test_vpmacssdqh : macOf .vpmacssdqh 32 64 [0, 0x80000000] [0, 0x7FFFFFFF] [0x8000000000000000] = some 0x8000000000000000#512 := by
  decide +kernel

theorem test_vpmacsdqh : macOf .vpmacsdqh 32 64 [0, 0x80000000] [0, 0x7FFFFFFF] [0x8000000000000000] = some 0x4000000080000000#512 := by
  decide +kernel

/-! Faults of the execution engine: rows of spec/96_test_vectors_simd.md 2.9. -/

/-- What a step adds to the trace, and whether the registers of the EE stay. -/
def signals (i : Instr) (s : State) : Option (List Output × Bool) :=
  ran i s fun t => (t.trace, decide (t.cpu.ee = s.cpu.ee))

def without (f : Features → Features) (s : State) : State :=
  { s with cpu := { s.cpu with features := f s.cpu.features } }

theorem test_illegal : signals (.illegal opd) (ee 0x8D7) = some ([.fault 0 .invalidOpcode], true) := by decide +kernel

theorem test_feature_absent : signals (.popcnt32 { opd with memform := true, addr := 0x8000 })
    (ee 0x8D7 |> without (fun f => { f with popcnt := false }) |> faultAt 0x8000) =
      some ([.fault 0 .invalidOpcode], true) := by decide +kernel

theorem test_avx512_absent_128 : signals (.vpaddd { opd with dst := 1 })
    (ee 0x8D7 |> without (fun f => { f with avx512 := false })) = some ([], false) := by decide +kernel

theorem test_avx512_absent_512 : signals (.vpsubd { opd with dst := 1, vl := 2 })
    (ee 0x8D7 |> without (fun f => { f with avx512 := false })) = some ([.fault 0 .invalidOpcode], true) := by
  decide +kernel

theorem test_read_faults : signals (.popcnt16 { opd with memform := true, addr := 0x8001 }) (ee 0x8D7 |> faultAt 0x8002) =
    some ([.fault 0 (.memFault ⟨14, 0, 0x8002⟩)], true) := by decide +kernel

theorem test_window_too_wide : signals (.popcnt64 { opd with memform := true, addr := 0xFEE00080 }) (ee 0x8D7) =
    some ([.fault 0 (.malformedApicAccess 0x80 8 false)], true) := by decide +kernel

theorem test_window_unaligned : signals (.tzcnt32 { opd with memform := true, addr := 0xFEE00084 }) (ee 0x8D7) =
    some ([.fault 0 (.malformedApicAccess 0x84 4 false)], true) := by decide +kernel

theorem test_window_version : ran (.lzcnt32 { opd with dst := 1, memform := true, addr := 0xFEE00030 }) (ee 0x8D7)
    (fun t => (t.gpr 1, t.rip, t.trace)) = some (13#64, 0x1004#64, []) := by decide +kernel

theorem test_elements_stored_before_a_fault : ran (.vmovdqu32St { opd with src2 := 2, opmask := 1, memform := true, addr := 0x7100 })
    (ee 2 |> vregs [(2, pack 32 [0xA, 0xB, 0xC, 0xD])] |> kregs [(1, 0xD)] |> faultAt 0x7108)
    (fun t => (Memory.readBytes t.mem 0x7100 16, t.trace, t.rip)) =
      some (0xA#512, [.fault 0 (.memFault ⟨14, 0, 0x7108⟩)], 0x1000#64) := by decide +kernel

/-! The local APIC: rows of spec/97_test_vectors_lapic.md and scenarios of 95_test_vectors.md. -/

/-- What a step leaves, when it answers a next state. -/
def stepped {α : Type} (s : State) (f : State → α) : Option α :=
  match step s with
  | .next t => some (f t)
  | _ => none

/-- One element of the schedule. -/
def did {α : Type} (i : Input) (s : State) (f : State → α) : Option α :=
  stepped { s with inputs := [i] } f

/-- The vectors set in a bitmap. -/
def vectors (m : Bitmap) : List Nat :=
  (List.range 256).filter fun v => bmTest m (BitVec.ofNat 8 v)

/-- A bitmap of vectors. -/
def bitmap (vs : List Nat) : Bitmap :=
  vs.foldl (fun m v => bmSet m (BitVec.ofNat 8 v)) (Vector.replicate 8 0#32)

/-- LAPIC 0 with its bitmaps and signal. -/
def lapic0 (irr isr tmr : List Nat) (pending : Bool) (s : State) : State :=
  { s with cpu := { s.cpu with lapic :=
    { s.cpu.lapic with irr := bitmap irr, isr := bitmap isr, tmr := bitmap tmr, intrPending := pending } } }

/-- The bitmaps and signal of LAPIC 0, and what left the block. -/
def seen (t : State) : List (List Nat) × Bool × List Output :=
  ([vectors t.cpu.lapic.irr, vectors t.cpu.lapic.isr, vectors t.cpu.lapic.tmr], t.cpu.lapic.intrPending, t.trace)

/-- A 4-byte store in the window. -/
def put (offset : Nat) : Input :=
  .descriptor 0 (encode (.vmovdqu32St
    { opd with src2 := 31, opmask := 7, memform := true, addr := BitVec.ofNat 64 (0xFEE00000 + offset) }))

/-- The machine in which a store of `put` stores `value`: element 0 of V[31], selected by K[7]. -/
def holding (value : Nat) (s : State) : State :=
  s |> vregs [(31, BitVec.ofNat 512 value)] |> kregs [(7, 1)]

theorem test_trigger : did (.triggerIrq 0 0x52 .edge) (ee 2 |> lapic0 [] [0x31] [] false) seen =
    some ([[0x52], [0x31], []], true, [.lapic 0 .signalEvent]) := by decide +kernel

theorem test_trigger_same_twice : did (.triggerIrq 0 0x40 .level) (ee 2 |> lapic0 [0x40] [] [] true) seen =
    some ([[0x40], [], []], true, []) := by decide +kernel

theorem test_trigger_below_16 : did (.triggerIrq 0 0x0F .edge) (ee 2) (fun t => (seen t, t.cpu.lapic.shadowErrorStatus)) =
    some (([[], [], []], false, []), 0x40#32) := by decide +kernel

theorem test_acknowledge : did (.acknowledgeInt 0) (ee 2 |> lapic0 [0x52] [0x31] [] true) seen =
    some ([[], [0x31, 0x52], []], false, [.lapic 0 .clearEvent, .acknowledged 0 0x52]) := by decide +kernel

theorem test_acknowledge_same_class : did (.acknowledgeInt 0) (ee 2 |> lapic0 [0x35] [0x31] [] true) seen =
    some ([[0x35], [0x31], []], false, [.lapic 0 .clearEvent, .acknowledged 0 0xFF]) := by decide +kernel

theorem test_eoi_level : did (put 0xB0) (ee 2 |> holding 0 |> lapic0 [] [0x61] [0x61] false) seen =
    some ([[], [], []], false, [.lapic 0 (.broadcastEoi 0x61)]) := by decide +kernel

theorem test_eoi_signals_the_next : did (put 0xB0) (ee 2 |> holding 0 |> lapic0 [0x45] [0x31, 0x52] [] false) seen =
    some ([[0x45], [0x31], []], true, [.lapic 0 .signalEvent]) := by decide +kernel

/-- The machine with INVARIANT_POLICY = recover. -/
def recovering (s : State) : State :=
  { s with cfg := { s.cfg with invariantPolicy := .recover } }

theorem test_eoi_without_isr : did (put 0xB0) (ee 2 |> holding 0 |> recovering) seen =
    some ([[], [], []], false, [.lapic 0 (.invariant .eoiWithoutIsr)]) := by decide +kernel

theorem test_eoi_without_isr_stops :
    (match step { (ee 2 |> holding 0) with inputs := [put 0xB0] } with
      | .fault f => decide (f = .invariantViolation .eoiWithoutIsr)
      | _ => false) = true := by decide +kernel

theorem test_tpr_holds : did (put 0x80) (ee 2 |> holding 0xFFFFFF3F |> lapic0 [0x4F] [] [] false)
    (fun t => (seen t, t.cpu.lapic.taskPriority)) =
      some (([[0x4F], [], []], true, [.lapic 0 .signalEvent]), 0x3F#8) := by decide +kernel

theorem test_icr_physical : did (put 0x300)
    (let s := ee 2 |> holding 0x30
     { s with cpu := { s.cpu with lapic := { s.cpu.lapic with icrHi := 0x01000000#32 } } })
    (fun t => (seen t, (t.lapicAt 1).map fun l => vectors l.irr)) =
      some (([[], [], []], false, [.lapic 1 .signalEvent]), some [0x30]) := by decide +kernel

theorem test_icr_nobody : did (put 0x300)
    (let s := ee 2 |> holding 0x30
     { s with cpu := { s.cpu with lapic := { s.cpu.lapic with icrHi := 0x09000000#32 } } })
    (fun t => t.cpu.lapic.shadowErrorStatus) = some 0x04#32 := by decide +kernel

theorem test_icr_others : did (put 0x300) (ee 2 |> holding 0x000C4141) (fun t => t.trace) =
    some [.lapic 1 .signalEvent] := by decide +kernel

theorem test_svr : did (put 0xF0) (ee 2 |> holding 0x1FF) (fun t => (t.cpu.lapic.svr, t.cpu.lapic.softwareEnabled)) =
    some (0x1FF#32, true) := by decide +kernel

theorem test_lvt_lint0 : did (put 0x350) (ee 2 |> holding 0xFFFFFFFF) (fun t => t.cpu.lapic.lvtEntry 3) =
    some 0x0001A7FF#32 := by decide +kernel

theorem test_timer_arms : did (put 0x380) (ee 2 |> holding 10)
    (fun t => (t.cpu.lapic.timerHandle, t.cpu.lapic.timerCurrent)) = some (⟨true, 20⟩, 10#32) := by decide +kernel

/-- LAPIC 0 counting down from 1000, divide factor 1, periodic, vector 0x50, `now` at 999. -/
def counting : State :=
  let s := ee 2
  { s with now := 999, cpu := { s.cpu with lapic := { s.cpu.lapic with
      lvt := s.cpu.lapic.lvt.set 0 0x00020050#32, timerDivconf := 0xB, timerDivideFactor := 1, timerInitial := 1000
      timerCurrent := 1, timerActive := true, timerHandle := ⟨true, 1000⟩ } } }

/-- R373, R405: at the expiry tick itself, before `periodic()`, nothing is raised and the count reads 0. -/
theorem test_timer_due : did (.advanceTime 1) counting (fun t => (seen t, t.now, t.inputs)) =
    some (([[], [], []], false, []), 1000#64, []) := by decide +kernel

theorem test_timer_count_at_expiry :
    (counting.cpu.lapic.currentCount Config.default 1000).toOption.map Prod.fst = some 0#32 := by decide +kernel

theorem test_timer_passes_expiry : did (.advanceTime 3) counting (fun t => (seen t, t.now, t.inputs)) =
    some (([[0x50], [], []], true, [.lapic 0 .signalEvent]), 1000#64, [.advanceTime 2]) := by decide +kernel

theorem test_periodic_not_due : did (.periodic 0) counting (fun t => decide (t = counting)) = some true := by decide +kernel

theorem test_timer_expires : did (.periodic 0) { counting with now := 1000 }
    (fun t => (seen t, t.cpu.lapic.timerHandle, t.cpu.lapic.ticksInitial)) =
      some (([[0x50], [], []], true, [.lapic 0 .signalEvent]), ⟨true, 2000⟩, 1000#64) := by decide +kernel

theorem test_timer_current : ran (.vmovdqu32Ld { opd with dst := 1, opmask := 7, zmask := true, memform := true, addr := 0xFEE00390 })
    (counting |> holding 0) (fun t => (t.vreg 1, t.cpu.lapic.timerCurrent)) = some (1#512, 1#32) := by decide +kernel

theorem test_x2apic : did (.setMode 1 .x2apic) (ee 2) (fun t => (t.trace, t.cpu.lapic.ldr, t.cpu.lapic.mode)) =
    some ([.modeSet 1 true], 2#32, .x2apic) := by decide +kernel

theorem test_msr_outside_x2apic : did (.readX2apic 0 0x02) (ee 2) (fun t => t.trace) = some [.msrRead 0 none] := by
  decide +kernel

theorem test_init : did (.init 0) (ee 2 |> lapic0 [0x52] [0x41] [0x52] true) seen =
    some ([[], [], []], false, [.lapic 0 .clearEvent]) := by decide +kernel

theorem test_reset_registers : (State.reset.rip, State.reset.rflags, State.reset.gpr 0, State.reset.vreg 31, State.reset.kreg 7) =
    (0xFFF0#64, 2#64, 0#64, 0#512, 0#64) := by decide +kernel

theorem test_idle : stepped State.reset id = some State.reset := by decide +kernel

theorem test_first_instruction : stepped (State.reset.withFetchWord 16 0x02F) (fun t => (t.rip, t.rflags, t.inputs)) =
    some (0xFFF1#64, 0x42#64, []) := by decide +kernel

/-! For every statement of Obligations.lean that has hypotheses, states and operands that meet them all. -/

/-- The answer of a part of a handler. -/
def done {α : Type} (r : Access α) : Bool :=
  match r with
  | .ok _ _ => true
  | _ => false

/-- Registers and memory with something in them; V[2] and V[3] differ, K[1] selects elements 0 and 2. -/
def wit : State :=
  ee 0x8D7 |> gprs [(0, 0), (1, 3), (2, 0xFFFFFFFFFFFFFFFF), (3, 0x8000)] |> kregs [(1, 5)] |> bytes [(0x2000, 4, 0xFFFFFFFF)] |>
    vregs [(1, filled), (2, pack 32 [1, 2, 3, 4]), (3, pack 32 [4, 3, 2, 1])]

/-- The register form and the memory form of a descriptor. -/
def mem : Desc := { opd with memform := true, addr := 0x2000 }

/-- The same with an opmask register. -/
def masked : Desc := { mem with opmask := 1 }

/-- Instructions that run in `wit` with a descriptor. -/
def AllReady (makes : List (Desc → Instr)) (ds : List Desc) : Prop :=
  ∀ make ∈ makes, ∀ d ∈ ds, Ready wit (make d)

theorem witness_StepRunsTheDecodedInstruction :
    let s := { wit with inputs := [.descriptor 1 (encode (.popcnt32 opd)), .hardwareReset] }
    s.inputs = .descriptor 1 (encode (.popcnt32 opd)) :: [.hardwareReset] ∧
      decode (encode (.popcnt32 opd)) = .ok (.popcnt32 opd) ∧
      (State.focusOn { s with inputs := [.hardwareReset] } 1).isSome = true :=
  ⟨rfl, rfl, rfl⟩

theorem witness_IllegalAndUnassignedIdsRaiseInvalidOpcode :
    let s := { wit with inputs := [.descriptor 0 (word 0x216)] }
    s.inputs = .descriptor 0 (word 0x216) :: [] ∧ decode (word 0x216) = .error (.unassigned 0x216#10) ∧
      (State.focusOn { s with inputs := [] } 0).isSome = true :=
  ⟨rfl, rfl, rfl⟩

/-- Each clause of R120 at the last legal value and at the first that is not. -/
theorem witness_RefusedExactlyWhenMalformed :
    (Instr.popcnt32 { opd with ilen := 0 }).malformed? = some .ilen ∧
    (∀ i ∈ [Instr.illegal { opd with ilen := 0 }, .popcnt32 { opd with ilen := 15 }, .vpaddd { opd with vl := 2 },
        .vpcmov { opd with vl := 1 }, .vpaddd { opd with zmask := true }, .vpcompressd { opd with zmask := true },
        .bt32I { opd with imm := 0xFF }, .bextri32 { opd with imm := 0xFFFFFFFF }, .movdquSt { opd with memform := true, src2 := 31 },
        .popcnt32 { opd with dst := 15, src1 := 15 }, .andn64 { opd with src2 := 15 }, .vpcmpd { opd with dst := 7, src1 := 31 },
        .kmovqGk { opd with dst := 15, src1 := 7 }, .vpperm { opd with src3 := 31 },
        .andn64 { opd with memform := true, src1 := 1 }], i.WellFormed) ∧
    ∀ i ∈ [Instr.popcnt32 { opd with rsvd := 1 }, .popcnt32 { opd with vl := 1 }, .vpaddd { opd with vl := 3 },
        .vpcmov { opd with vl := 2 }, .vpcmpd { opd with zmask := true }, .vpcompressd { opd with memform := true, zmask := true },
        .vpcmpeqd { opd with opmask := 1 }, .bt32I { opd with imm := 0x100 }, .popcnt32 { opd with imm := 1 }, .movdquSt opd,
        .psllwI { opd with memform := true }, .popcnt32 { opd with dst := 16 }, .bt32I { opd with src1 := 1 },
        .vpcmpd { opd with dst := 8 }, .kmovqGk { opd with src1 := 8 }, .popcnt32 { opd with src2 := 1 }, .vpcomd { opd with src3 := 1 },
        .andn64 { opd with memform := true, src2 := 1 }, .vpcompressd { opd with memform := true, dst := 1 }],
      ¬ i.WellFormed := by decide +kernel

theorem witness_AbsentFeatureRaisesInvalidOpcode :
    ((Instr.popcnt32 opd).WellFormed ∧ (Instr.popcnt32 opd).enabled { Features.all with popcnt := false } = false) ∧
    (Instr.vpaddd { opd with vl := 2 }).WellFormed ∧
      (Instr.vpaddd { opd with vl := 2 }).enabled { Features.all with avx512 := false } = false ∧
      (Instr.vpaddd { opd with vl := 1 }).enabled { Features.all with avx512 := false } = true := by decide +kernel

/-- A signal of a read, of a read of elements whose first one changed the error status (which is undone), of a store of several
elements, and of ILLEGAL. -/
theorem witness_FaultSignalsArePrecise :
    ran (.illegal opd) wit (fun t => t.trace.drop wit.trace.length) = some [.fault 0 .invalidOpcode] ∧
    ran (.popcnt64 { mem with addr := 0xFEE00080 }) wit (fun t => t.trace.drop wit.trace.length) =
      some [.fault 0 (.malformedApicAccess 0x80 8 false)] ∧
    ran (.vpexpandd { masked with addr := 0xFEE00000 }) wit
      (fun t => (t.trace.drop wit.trace.length, decide (t.cpu.lapic = wit.cpu.lapic))) =
        some ([.fault 0 (.malformedApicAccess 4 4 false)], true) ∧
    ran (.vpcompressd { masked with src2 := 2 }) (wit |> faultAt 0x2004) (fun t => t.trace.drop wit.trace.length) =
      some [.fault 0 (.memFault ⟨14, 0, 0x2004⟩)] := by decide +kernel

theorem witness_OtherFlagBitsAreHeld : (ran (.popcnt32 opd) wit id).isSome = true := by decide +kernel

/-- The last id below 0x080 and the first from it, KMOV both ways, a compare to a mask. -/
theorem witness_RegisterFilesWrittenPerClass : ∀ i ∈ [Instr.tzmsk64 opd, .paddb opd, .kmovqKg opd, .kmovbGk opd, .vpcmpuq opd],
    (ran i wit id).isSome = true := by decide +kernel

theorem witness_SubregisterReadsAndWrites : (0#5).toNat < 16 ∧ (15#5).toNat < 16 ∧ 15#5 ≠ 0#5 := by decide

theorem witness_SourceOperands :
    opd.memform = false ∧ mem.memform = true ∧ (∀ n ∈ [2, 4, 8, 16, 32, 64], wit.target mem.addr n = .memory ∧
      memFaultOf wit.memFaults false mem.addr n = none ∧ done (wit.srcG (8 * n) mem 0) = true ∧
      done (wit.srcV (8 * n) mem 0) = true) ∧
    done (wit.readElements 32 [0x2000, 0xFEE00030]) = true := by decide +kernel

theorem witness_BitLocation : opd.memform = false ∧ mem.memform = true ∧ ∀ w ∈ [16, 32, 64], ∀ o ∈ [BitOffset.reg, .imm],
    done (wit.memRead (wit.bitAddress w o mem) (w / 8)) = true := by decide +kernel

theorem witness_BitTestReadsTheBit :
    AllReady [.bt16G, .bt32G, .bt64G, .bt16I, .bt32I, .bt64I] [opd, mem] ∧
      ∀ w ∈ [16, 32, 64], ∀ o ∈ [BitOffset.reg, .imm], done (wit.bitBase w o opd) = true ∧ done (wit.bitBase w o mem) = true := by
  unfold AllReady; decide +kernel

/-- The register form on register 0, which holds 0, and the memory form at 0x2100, where memory holds 0: bit 0 set or complemented
gives 1, bit 0 cleared gives 0. -/
theorem witness_BitTestModifiesTheBit :
    let at0 := { mem with addr := 0x2100 }
    AllReady [.bts16G, .bts32G, .bts64G, .bts16I, .bts32I, .bts64I, .btr16G, .btr32G, .btr64G, .btr16I, .btr32I, .btr64I, .btc16G,
      .btc32G, .btc64G, .btc16I, .btc32I, .btc64I] [opd, at0] ∧
    ∀ w ∈ [16, 32, 64], ∀ o ∈ [BitOffset.reg, .imm], ∀ d ∈ [opd, at0], done (wit.bitBase w o d) = true ∧ wit.bitIndex w o d = 0 ∧
      (∀ j < w, (1#w).getLsbD j = if j = 0 then true else (0#w).getLsbD j) ∧
      (∀ j < w, (0#w).getLsbD j = if j = 0 then false else (0#w).getLsbD j) ∧
      done (wit.memWrite (wit.bitAddress w o at0) (w / 8) 1#512) = true := by
  unfold AllReady; decide +kernel

/-- The handlers `OP r, r/m` with a source of 0 (register 0), of 3 (register 1), of all ones (memory). For BitScansFindTheBit, PopulationCount,
TrailingAndLeadingZeroCounts, AndNotAndBitFields, LowestBitOperations, MultiplyWithoutFlags and DepositRotateShiftWithoutFlags. -/
theorem witness_general_register_sources :
    AllReady [.bsf16, .bsf32, .bsf64, .bsr16, .bsr32, .bsr64, .popcnt16, .popcnt32, .popcnt64, .tzcnt16, .tzcnt32, .tzcnt64,
      .lzcnt16, .lzcnt32, .lzcnt64, .andn32, .andn64, .bextr32, .bextr64, .bextri32, .bextri64, .bzhi32, .bzhi64, .blsi32, .blsi64,
      .blsmsk32, .blsmsk64, .blsr32, .blsr64] [opd, mem] ∧
    AllReady [.blcfill32, .blcfill64, .blci32, .blci64, .blcic32, .blcic64, .blcmsk32, .blcmsk64, .blcs32, .blcs64, .blsfill32,
      .blsfill64, .blsic32, .blsic64, .t1mskc32, .t1mskc64, .tzmsk32, .tzmsk64, .mulx32, .mulx64, .pdep32, .pdep64, .pext32,
      .pext64, .rorx32, .rorx64, .sarx32, .sarx64, .shlx32, .shlx64, .shrx32, .shrx64] [opd, mem] ∧
    ∀ w ∈ [16, 32, 64], ∀ d ∈ [opd, mem], done (wit.srcG w d 0) = true ∧ done (wit.srcG w d 1) = true := by
  unfold AllReady; decide +kernel

/-- BSF and BSR: a source that is 0 and one that is not. -/
theorem witness_BitScansFindTheBit : wit.x 16 0 = 0#16 ∧ wit.x 16 1 ≠ 0#16 ∧ wit.x 64 0 = 0#64 ∧ wit.x 64 1 ≠ 0#64 := by
  decide +kernel

/-- MULX with `dst` and `src1` two registers and the same one. -/
theorem witness_MultiplyWithoutFlags : AllReady [.mulx32, .mulx64] [{ opd with src1 := 1 }, opd] ∧ (1#5 ≠ 0#5) := by
  unfold AllReady; decide +kernel

/-- For SseElementwise, SseShifts, SseShufflesAndLoad and SseStore. -/
theorem witness_packed_sse :
    AllReady [.paddb, .paddw, .paddd, .paddq, .psubb, .psubw, .psubd, .psubq, .pand, .pandn, .por, .pxor, .pcmpeqb, .pcmpeqw,
      .pcmpeqd, .pcmpeqq, .pcmpgtb, .pcmpgtw, .pcmpgtd, .pcmpgtq, .pminsb, .pminsw, .pminsd, .pmaxsb, .pmaxsw, .pmaxsd, .pminub,
      .pminuw, .pminud, .pmaxub, .pmaxuw, .pmaxud, .pshufd, .pshufb, .movdquLd] [opd, mem] ∧
    AllReady [.psllwI, .pslldI, .psllqI, .psrlwI, .psrldI, .psrlqI, .psrawI, .psradI] [{ opd with imm := 0xFF }] ∧
    AllReady [.movdquSt] [mem] ∧ (∀ d ∈ [opd, mem], done (wit.srcV 128 d 0) = true) ∧
    wit.target mem.addr 16 = .memory ∧ memFaultOf wit.memFaults true mem.addr 16 = none := by
  unfold AllReady; decide +kernel

/-- Every vector length, every mask state. -/
def vectorForms : List Desc :=
  [{ opd with vl := 2 }, { mem with vl := 1, opmask := 1 }, { mem with opmask := 1, zmask := true }]

/-- For VectorElementwise, VectorShifts, VectorShuffles and PermuteAndAlign. -/
theorem witness_packed_vector :
    AllReady [.vpaddb, .vpaddw, .vpaddd, .vpaddq, .vpsubb, .vpsubw, .vpsubd, .vpsubq, .vpandd, .vpandq, .vpandnd, .vpandnq, .vpord,
      .vporq, .vpxord, .vpxorq, .vpminsb, .vpminsw, .vpminsd, .vpminsq, .vpmaxsb, .vpmaxsw, .vpmaxsd, .vpmaxsq, .vpminub, .vpminuw,
      .vpminud, .vpminuq, .vpmaxub, .vpmaxuw, .vpmaxud, .vpmaxuq] vectorForms ∧
    AllReady [.vpsllwI, .vpslldI, .vpsllqI, .vpsrlwI, .vpsrldI, .vpsrlqI, .vpsrawI, .vpsradI, .vpsraqI, .vpsllvw, .vpsllvd,
      .vpsllvq, .vpsrlvw, .vpsrlvd, .vpsrlvq, .vpsravw, .vpsravd, .vpsravq, .vpshufd, .vpshufb, .vpermb, .vpermw, .vpermd, .vpermq,
      .valignd, .valignq] vectorForms ∧
    ∀ d ∈ vectorForms, done (wit.srcV d.vlBits d 0) = true := by
  unfold AllReady; decide +kernel

/-- For VectorCompares, XopCompares, XopPermuteAndConditionalMove and MultiplyAccumulate. -/
theorem witness_whole_register_results :
    AllReady [.vpcmpeqb, .vpcmpeqw, .vpcmpeqd, .vpcmpeqq, .vpcmpgtb, .vpcmpgtw, .vpcmpgtd, .vpcmpgtq, .vpcomb, .vpcomw, .vpcomd,
      .vpcomq, .vpcomub, .vpcomuw, .vpcomud, .vpcomuq, .vpperm, .vpcmov, .vpmacssww, .vpmacsww, .vpmacsswd, .vpmacswd, .vpmacssdd,
      .vpmacsdd, .vpmacssdql, .vpmacsdql, .vpmacssdqh, .vpmacsdqh, .vpmadcsswd, .vpmadcswd] [opd, mem] ∧
    ∀ d ∈ [opd, mem], done (wit.srcV d.vlBits d 0) = true := by
  unfold AllReady; decide +kernel

/-- VMOVDQU: both clauses of the loads, both of the stores. For VectorLoads and VectorStores. -/
theorem witness_vector_moves :
    AllReady [.vmovdqu8Ld, .vmovdqu16Ld, .vmovdqu32Ld, .vmovdqu64Ld] [opd, mem, masked] ∧
    AllReady [.vmovdqu8St, .vmovdqu16St, .vmovdqu32St, .vmovdqu64St] [mem, masked] ∧
    masked.memform = true ∧ masked.opmask ≠ 0#3 ∧ mem.opmask = 0#3 ∧ wit.target mem.addr 16 = .memory ∧
    memFaultOf wit.memFaults true mem.addr 16 = none ∧ done (wit.srcV 128 mem 0) = true ∧
    ∀ w ∈ [8, 16, 32, 64],
      let sel := (List.range (masked.vlBits / w)).filter (selects wit masked)
      let ea (i : Nat) : Word := masked.addr + BitVec.ofNat 64 (i * (w / 8))
      done (wit.readElements w (sel.map ea)) = true ∧ wit.target (ea 0) (w / 8) = .memory ∧
        done (wit.writeElements w (sel.map fun i => (ea i, lane w (wit.vreg 2) i))) = true := by
  unfold AllReady; decide +kernel

theorem witness_CompareToMask :
    AllReady [.vpcmpb, .vpcmpw, .vpcmpd, .vpcmpq, .vpcmpub, .vpcmpuw, .vpcmpud, .vpcmpuq]
      [{ opd with imm := 7 }, { mem with vl := 2, opmask := 1 }] ∧
    done (wit.srcV 128 opd 0) = true ∧ done (wit.srcV 512 { mem with vl := 2, opmask := 1 } 0) = true := by
  unfold AllReady; decide +kernel

/-- VPCOMPRESS and VPEXPAND: the register form, the memory form without and with a mask. For CompressToRegister, CompressToMemory and ExpandBySelection. -/
theorem witness_compress_and_expand :
    AllReady [.vpcompressb, .vpcompressw, .vpcompressd, .vpcompressq, .vpexpandb, .vpexpandw, .vpexpandd, .vpexpandq]
      [opd, { opd with opmask := 1, zmask := true, vl := 1 }, mem, masked] ∧
    ∀ w ∈ [8, 16, 32, 64],
      let sel := (List.range (masked.vlBits / w)).filter (selects wit masked)
      let ea (j : Nat) : Word := masked.addr + BitVec.ofNat 64 (j * (w / 8))
      done (wit.writeElements w ((List.range sel.length).map fun j => (ea j, lane w (wit.vreg 2) (sel.getD j 0)))) = true ∧
        0 < sel.length ∧ wit.target (ea 0) (w / 8) = .memory ∧
        done (wit.readElements w ((List.range ((List.range (masked.vlBits / w)).countP (selects wit masked))).map ea)) = true := by
  unfold AllReady; decide +kernel

/-- VPCOMPRESSD of V[2] to V[5] under K[1], then VPEXPANDD of V[5] to V[6]. -/
theorem witness_ExpandRestoresCompressed :
    let c := { opd with dst := 5, src2 := 2, opmask := 1 }
    let e := { opd with dst := 6, src2 := 5, opmask := 1, zmask := true }
    AllReady [.vpcompressb, .vpcompressw, .vpcompressd, .vpcompressq] [c] ∧
      AllReady [.vpexpandb, .vpexpandw, .vpexpandd, .vpexpandq] [e] ∧
      ran (.vpcompressd c) wit (fun t => ran (.vpexpandd e) t fun u => u.vreg 6) = some (some (pack 32 [1, 0, 3, 0])) := by
  unfold AllReady; decide +kernel

theorem witness_OpmaskMoves :
    AllReady [.kmovbKg, .kmovwKg, .kmovdKg, .kmovqKg] [{ opd with dst := 7, src1 := 15 }] ∧
    AllReady [.kmovbGk, .kmovwGk, .kmovdGk, .kmovqGk] [{ opd with dst := 15, src1 := 7 }] := by
  unfold AllReady; decide +kernel

/-- A memory access of 64 bytes that succeeds, and one whose last byte faults. -/
theorem witness_MemoryAccesses : wit.target 0x2000 64 = .memory ∧ memFaultOf wit.memFaults false 0x2000 64 = none ∧
    memFaultOf wit.memFaults true 0x2000 64 = none ∧
    memFaultOf (wit |> faultAt 0x203F).memFaults false 0x2000 64 = some ⟨14, 0, 0x203F⟩ ∧
    memFaultOf (wit |> faultAt 0x203F).memFaults true 0x2000 64 = some ⟨14, 0, 0x203F⟩ := by decide +kernel

/-- The first and last aligned offsets; the byte before the window and the byte after it, from both sides; a straddling access; the
registers, the first and the last of each range. -/
theorem witness_ApicWindowRouting :
    wit.cpu.lapic.mode = .xapic ∧ wit.target 0xFEE00000 4 = .window 0 ∧ wit.target 0xFEE00FF0 4 = .window 0xFF ∧
    wit.target 0xFEDFFFFF 1 = .memory ∧ wit.target 0xFEE01000 4 = .memory ∧ wit.target 0xFEDFFFFC 4 = .memory ∧
    wit.target 0xFEDFFFFD 4 = .malformed 0xFFFFFFFFFFFFFFFD ∧ wit.target 0xFEE00FFF 2 = .malformed 0xFFF ∧
    wit.target 0xFEE00FFF 1 = .malformed 0xFFF ∧
    (did (.setMode 0 .x2apic) wit fun t => t.target 0xFEE00000 4) = some .memory ∧ wit.cfg.xapicExtSupported = true ∧
    ∀ slot ∈ [0x02, 0x03, 0x08, 0x09, 0x0A, 0x0B, 0x0D, 0x0E, 0x0F, 0x10, 0x17, 0x18, 0x1F, 0x20, 0x27, 0x2F, 0x30, 0x31, 0x32, 0x33,
        0x37, 0x38, 0x39, 0x3E, 0x40, 0x41, 0x42, 0x48, 0x4F],
      wit.target (0xFEE00000 + BitVec.ofNat 64 (16 * slot)) 4 = .window (BitVec.ofNat 8 slot) := by decide +kernel

/-- Both ends of every range of undefined slots, and the ESR. -/
theorem witness_ErrorStatusIsLatched : ∀ slot ∈ [0x00, 0x01, 0x04, 0x07, 0x0C, 0x28, 0x29, 0x2E, 0x3A, 0x3D, 0x3F, 0x43, 0x47, 0x50, 0xFF],
    wit.target (0xFEE00000 + BitVec.ofNat 64 (16 * slot)) 4 = .window (BitVec.ofNat 8 slot) := by decide +kernel

/-- The same of the extended slots, where they are not supported. -/
theorem witness_ErrorStatusIsLatched_extended : ∀ slot ∈ [0x40, 0x42, 0x48, 0x4F],
    let s := { wit with cfg := { wit.cfg with xapicExtSupported := false } }
    s.cfg.xapicExtSupported = false ∧
      s.target (0xFEE00000 + BitVec.ofNat 64 (16 * slot)) 4 = .window (BitVec.ofNat 8 slot) := by decide +kernel

/-- A scan with an answer, without one, and with the interrupt-enable registers active. -/
theorem witness_PriorityScanFindsTheHighest :
    let l := Lapic.reset 0
    let cfg := Config.default
    l.highestPriorityInt cfg (bitmap [31, 64]) = some 64 ∧ l.highestPriorityInt cfg (bitmap []) = none ∧
    ({ l with xapicExt := 1, ier := l.ier.set 2 0xFFFFFFFE#32 } : Lapic).highestPriorityInt cfg (bitmap [31, 64]) = some 31 := by
  decide +kernel

/-- Vectors 15 and 16, a vector already pending, and one that signals. -/
theorem witness_TriggerIrq :
    let l := ({ Lapic.reset 0 with irr := bitmap [0x10] } : Lapic)
    (15#8).toNat < 16 ∧ 16 ≤ (16#8).toNat ∧ bmTest l.irr 16 = true ∧ bmTest l.irr 17 = false ∧
      (l.triggerIrq Config.default 17 .edge false).2 = [.signalEvent] ∧
      (({ l with taskPriority := 0x10 } : Lapic).triggerIrq Config.default 17 .edge false).2 = [] := by decide +kernel

/-- The signal off, under both policies; on, with a vector of a higher class than both the task priority and the vector in service,
of the same class as the one, of the same class as the other, and with none. -/
theorem witness_AcknowledgeInt :
    let l := ({ Lapic.reset 0 with irr := bitmap [0x52], isr := bitmap [0x3F], intrPending := true } : Lapic)
    let same := ({ l with irr := bitmap [0x35], isr := bitmap [0x30] } : Lapic)
    let cfg := Config.default
    (Lapic.reset 0).intrPending = false ∧ cfg.invariantPolicy = .fault ∧
    ({ cfg with invariantPolicy := .recover } : Config).invariantPolicy = .recover ∧
    l.highestPriorityInt cfg l.irr = some 0x52 ∧ l.highestPriorityInt cfg l.isr = some 0x3F ∧ l.taskPriority.toNat / 16 < 0x52 / 16 ∧
    (l.acknowledgeInt cfg).toOption.map (fun r => (r.1, r.2.2)) = some (0x52#8, [.clearEvent]) ∧
    same.highestPriorityInt cfg same.irr = some 0x35 ∧ same.highestPriorityInt cfg same.isr = some 0x30 ∧
    (({ l with taskPriority := 0x50 } : Lapic).acknowledgeInt cfg).toOption.map Prod.fst = some 0xFF#8 ∧
    ({ l with irr := bitmap [] } : Lapic).highestPriorityInt cfg (bitmap []) = none := by decide +kernel

/-- A level-triggered vector in service, after whose end another is signalled; one that leaves the signal off; nothing in service. -/
theorem witness_ReceiveEoi :
    let l := ({ Lapic.reset 0 with isr := bitmap [0x61], tmr := bitmap [0x61], irr := bitmap [0x42] } : Lapic)
    let cfg := Config.default
    l.highestPriorityInt cfg l.isr = some 0x61 ∧ bmTest l.tmr 0x61 = true ∧
    (l.receiveEoi cfg).toOption.map Prod.snd = some [.broadcastEoi 0x61, .signalEvent] ∧
    (({ l with taskPriority := 0x40 } : Lapic).receiveEoi cfg).toOption.map Prod.snd = some [.broadcastEoi 0x61] ∧
    (Lapic.reset 0).highestPriorityInt cfg (Lapic.reset 0).isr = none := by decide +kernel

/-- To LAPIC 1, which takes it; to identifier 9, which none has. -/
theorem witness_FixedInterruptReachesItsTarget :
    let lo := 0x41#32
    lo.extractLsb' 18 2 = 0#2 ∧ lo.getLsbD 11 = false ∧ lo.extractLsb' 8 3 = 0#3 ∧
    isBroadcast wit.cfg (decide (wit.cpu.lapic.mode = .x2apic)) 1 = false ∧
    isBroadcast wit.cfg (decide (wit.cpu.lapic.mode = .x2apic)) 9 = false ∧
    (wit.lapicAt 0).map Lapic.apicId = some 0 ∧ (wit.lapicAt 1).map Lapic.apicId = some 1 ∧
    (wit.lapicAt 1).map Lapic.mode = some .xapic ∧ wit.cpus.length = 2 := by decide +kernel

/-- A live LAPIC other than the sender, and one that is not live. -/
theorem witness_BroadcastExcludesTheSender :
    (0x000C0041#32).extractLsb' 18 2 = 3#2 ∧ (0x000C0041#32).extractLsb' 8 3 = 0#3 ∧ (1 : Nat) ≠ wit.focus ∧
    (wit.lapicAt 1).map Lapic.mode = some .xapic ∧
    (did (.setMode 1 .disabled) wit fun t => (t.lapicAt 1).map Lapic.mode) = some (some .disabled) := by decide +kernel

/-- Every row, from a LAPIC in its mode. -/
theorem witness_SetMode :
    let l := Lapic.reset 0x23
    let cfg := Config.default
    (l.setMode cfg .xapic).1 = true ∧ (l.setMode cfg .x2apic).1 = true ∧
    (l.setMode { cfg with x2apicSupported := false } .x2apic).1 = false ∧ (l.setMode cfg .disabled).1 = true ∧
    (({ l with mode := .x2apic } : Lapic).setMode cfg .xapic).1 = false ∧
    (({ l with mode := .disabled } : Lapic).setMode cfg .xapic).1 = true ∧
    (({ l with mode := .globallyDisabled } : Lapic).setMode cfg .x2apic).1 = false := by decide +kernel

/-- A count of 0, of 1, and the last tick of a countdown. -/
theorem witness_TimerCountsDown :
    let l := Lapic.reset 0
    l.lvt[0].getLsbD 18 = false ∧ (1#32 ≠ 0#32) ∧ (2#64).toNat ≤ (1#32).toNat * l.timerDivideFactor.toNat ∧
      counting.cpu.lapic.timerActive = true ∧ counting.cpu.lapic.lvt[0].getLsbD 18 = false := by decide +kernel

/-- An inactive timer; a periodic, a one-shot and a TSC-deadline timer that are active. -/
theorem witness_TimerExpiry :
    let l := counting.cpu.lapic
    let with0 (v : BitVec 32) : Lapic := { l with lvt := l.lvt.set 0 v }
    (Lapic.reset 0).timerActive = false ∧ l.timerActive = true ∧
    (l.lvt[0].getLsbD 18 = false ∧ l.lvt[0].getLsbD 17 = true) ∧
    ((with0 0x30).lvt[0].getLsbD 18 = false ∧ (with0 0x30).lvt[0].getLsbD 17 = false) ∧
    (with0 0x40030).lvt[0].getLsbD 18 = true := by decide +kernel

/-- Outside X2APIC mode; in it, a rejected and an accepted value of every register that has a rule of its own, and the ends of the
ranges of those that share the window's path and of those that are not there. -/
theorem witness_MsrViewRejects :
    let x := { wit with cpu := { wit.cpu with lapic := { wit.cpu.lapic with mode := .x2apic, isr := bitmap [0x61] } } }
    let ok (slot : BitVec 8) (hi lo : BitVec 32) : Option Bool := (x.x2apicWrite slot hi lo).toOption.map Prod.fst
    let read (slot : BitVec 8) : Option Bool := (x.cpu.lapic.x2apicRead x.cfg x.now slot).toOption.map fun r => r.1.isSome
    wit.cpu.lapic.mode ≠ .x2apic ∧ x.cpu.lapic.mode = .x2apic ∧
    (∀ p ∈ [(0x02, 1, 5), (0x0D, 1, 5), (0x30, 1, 0x41), (0x08, 0, 0xFF), (0x3F, 0, 0xFF), (0x0B, 0, 0), (0x28, 0, 0),
        (0x0F, 0, 0x11FF), (0x2F, 0, 0), (0x3E, 0, 0xB), (0x32, 0, 0), (0x38, 0, 1)],
      ok (BitVec.ofNat 8 p.1) (BitVec.ofNat 32 p.2.1) (BitVec.ofNat 32 p.2.2) = some true) ∧
    (∀ p ∈ [(0x08, 1, 0), (0x08, 0, 0x100), (0x3F, 0, 0x100), (0x0B, 0, 1), (0x28, 0, 1), (0x0F, 0, 0x200), (0x03, 0, 0), (0x31, 0, 0),
        (0x39, 0, 0), (0x41, 0, 0)], ok (BitVec.ofNat 8 p.1) (BitVec.ofNat 32 p.2.1) (BitVec.ofNat 32 p.2.2) = some false) ∧
    (∀ slot ∈ [0x02, 0x0D, 0x30, 0x03, 0x10, 0x28, 0x32, 0x39, 0x3E], read (BitVec.ofNat 8 slot) = some true) ∧
    ∀ slot ∈ [0x09, 0x0B, 0x0E, 0x29, 0x31, 0x3A, 0x3F, 0x40], read (BitVec.ofNat 8 slot) = some false := by decide +kernel

theorem witness_HardwareReset : (did .hardwareReset wit fun t => t.cpus.length) = some 2 := by decide +kernel

/-- A step of the time facility, seen from CPU 1. -/
theorem witness_OtherEnginesKeepTheirRegisters :
    (did (.advanceTime 1) wit fun t => (t.cpus[1]?).isSome) = some true ∧ (∀ w, Input.advanceTime 1 ≠ .descriptor 1 w) ∧
      Input.advanceTime 1 ≠ .softwareReset 1 ∧ Input.advanceTime 1 ≠ .hardwareReset :=
  ⟨by decide +kernel, fun _ => by simp, by decide, by decide⟩

/-- A state other than reset that meets the invariants, and steps. -/
theorem witness_EveryStepKeepsTheInvariants :
    let s := ee 0x8D7 |> lapic0 [0x52] [0x31] [] true |> bytes [(0x2000, 4, 0xFFFFFFFF)]
    s.Inv ∧ (did (.acknowledgeInt 0) s id).isSome = true := by decide +kernel

theorem witness_EncodeUndoesDecode : decode (encode (.popcnt32 opd)) = .ok (.popcnt32 opd) ∧
    decode (word 0x216) = .error (.unassigned 0x216#10) := ⟨rfl, rfl⟩

end Sys2Proof.Tests
end

section
/-! What a step leaves alone of the CPUs that do not act (spec/00_scope.md R4): the rules for the shared operations, once. -/

namespace Sys2Proof.Machine

/-! The registers of every EE, and of every EE but the one in focus. -/

/-- The registers of the EEs, in index order. -/
def State.engines (s : State) : List Ee :=
  s.cpus.map Cpu.ee

theorem State.engines_getElem? (s : State) (c : Nat) : s.engines[c]? = (s.cpus[c]?).map Cpu.ee :=
  List.getElem?_map

theorem State.engines_eq (s : State) : s.engines = s.below.map Cpu.ee ++ s.cpu.ee :: s.above.map Cpu.ee := by
  simp [State.engines, State.cpus]

/-- Every EE but the one in focus has the registers it had, and the focus has not moved. -/
structure OthersKept (s t : State) : Prop where
  below : t.below.map Cpu.ee = s.below.map Cpu.ee
  above : t.above.map Cpu.ee = s.above.map Cpu.ee

theorem OthersKept.refl (s : State) : OthersKept s s := ⟨rfl, rfl⟩

theorem OthersKept.trans {s t u : State} (h : OthersKept s t) (k : OthersKept t u) : OthersKept s u :=
  ⟨k.below.trans h.below, k.above.trans h.above⟩

theorem KeepsOutside.othersKept {s t : State} (h : KeepsOutside s t) : OthersKept s t :=
  ⟨by rw [h.below], by rw [h.above]⟩

theorem map_ee_of_map_setLapic {l : Lapic} {a b : List Cpu} (h : a.map (Cpu.setLapic l) = b.map (Cpu.setLapic l)) :
    a.map Cpu.ee = b.map Cpu.ee := by
  have h := congrArg (List.map Cpu.ee) h
  simp only [List.map_map] at h
  exact h

theorem LapicOnly.othersKept {s t : State} (h : LapicOnly s t) : OthersKept s t :=
  ⟨map_ee_of_map_setLapic h.below, map_ee_of_map_setLapic h.above⟩

theorem LapicOnly.engines {s t : State} (h : LapicOnly s t) : t.engines = s.engines := by
  rw [State.engines_eq, State.engines_eq, h.othersKept.below, h.ee, h.othersKept.above]

/-- Every CPU but the one in focus has its registers at its own index. -/
theorem OthersKept.engines_getElem? {s t : State} (h : OthersKept s t) {c : Nat} (hc : c ≠ s.focus) :
    t.engines[c]? = s.engines[c]? := by
  rw [State.engines_eq, State.engines_eq, h.below, h.above]
  simp only [List.getElem?_append, List.length_map]
  split
  · rfl
  · have : c - s.below.length ≠ 0 := by unfold State.focus at hc; omega
    obtain ⟨k, hk⟩ := Nat.exists_eq_succ_of_ne_zero this
    rw [hk, List.getElem?_cons_succ, List.getElem?_cons_succ]

/-! Updates of the CPU in focus. -/

theorem OthersKept.setX (s : State) {w : Nat} (i : BitVec 5) (v : BitVec w) : OthersKept s (s.setX i v) := ⟨rfl, rfl⟩
theorem OthersKept.setVreg (s : State) (r : Nat) (x : Packed) : OthersKept s (s.setVreg r x) := ⟨rfl, rfl⟩
theorem OthersKept.setKreg (s : State) (k : Nat) (x : Word) : OthersKept s (s.setKreg k x) := ⟨rfl, rfl⟩
theorem OthersKept.advance (s : State) (n : BitVec 4) : OthersKept s (s.advance n) := ⟨rfl, rfl⟩
theorem OthersKept.raise (s : State) (g : FaultSignal) : OthersKept s (s.raise g) := ⟨rfl, rfl⟩
theorem OthersKept.softwareReset (s : State) : OthersKept s s.softwareReset := ⟨rfl, rfl⟩

theorem OthersKept.writeFlags (s : State) (u : FlagUpdate) : OthersKept s (s.writeFlags u) := by
  obtain ⟨-, -, -, -, -, houtside⟩ := writeFlags_else s u
  exact houtside.othersKept

theorem OthersKept.setXFlags (s : State) {w : Nat} (i : BitVec 5) (v : BitVec w) (u : FlagUpdate) :
    OthersKept s ((s.setX i v).writeFlags u) :=
  (OthersKept.setX s i v).trans (.writeFlags _ u)

/-! The handler's progress: what has left a handler that began in `s`. -/

/-- Part of a handler begun in `s` has left every other EE as it was, whether it goes on, raises a signal or stops. -/
def Access.KeepsOthers {α : Type} (s : State) : Access α → Prop
  | .ok _ t     => OthersKept s t
  | .raised _ t => OthersKept s t
  | .stopped _  => True

theorem Access.keepsOthers_bind {α β : Type} {s : State} {r : Access α} {f : α → State → Access β}
    (hr : r.KeepsOthers s) (hf : ∀ v t, (f v t).KeepsOthers t) : (r.bind f).KeepsOthers s := by
  cases r with
  | ok v t =>
    have h := hf v t
    change (f v t).KeepsOthers s
    cases hfv : f v t with
    | ok w u => rw [hfv] at h; exact hr.trans h
    | raised g u => rw [hfv] at h; exact hr.trans h
    | stopped i => trivial
  | raised g t => exact hr
  | stopped i => trivial

/-- A part that only reads: the LAPICs alone may change, and a signal leaves the state as it was. -/
theorem Access.keepsOthers_of_reads {α : Type} {s : State} {r : Access α} (hok : ∀ {v t}, r = .ok v t → LapicOnly s t)
    (hraised : ∀ {g t}, r = .raised g t → t = s) : r.KeepsOthers s := by
  cases r with
  | ok v t => exact (hok rfl).othersKept
  | raised g t => exact hraised rfl ▸ .refl _
  | stopped i => trivial

theorem memRead_keepsOthers (s : State) (a : Word) (n : Nat) : (s.memRead a n).KeepsOthers s :=
  Access.keepsOthers_of_reads .memRead memRead_raised

theorem readElements_keepsOthers (s : State) (w : Nat) (as : List Word) : (s.readElements w as).KeepsOthers s :=
  Access.keepsOthers_of_reads .readElements readElements_raised

theorem memWrite_keepsOthers (s : State) (a : Word) (n : Nat) (v : Packed) : (s.memWrite a n v).KeepsOthers s := by
  cases h : s.memWrite a n v with
  | ok _ t =>
    obtain ⟨-, -, rfl⟩ | ⟨slot, -, hmmio⟩ := memWrite_ok h
    · exact ⟨rfl, rfl⟩
    · exact (LapicOnly.mmioWrite hmmio).othersKept
  | raised g t => exact memWrite_raised h ▸ .refl _
  | stopped i => trivial

theorem writeElements_keepsOthers (s : State) (w : Nat) (es : List (Word × BitVec w)) :
    (s.writeElements w es).KeepsOthers s := by
  induction es generalizing s with
  | nil => exact .refl s
  | cons e es ih => exact Access.keepsOthers_bind (memWrite_keepsOthers _ _ _ _) fun _ t => ih t

theorem srcG_keepsOthers (s : State) (w : Nat) (d : Desc) (r : BitVec 5) : (s.srcG w d r).KeepsOthers s := by
  unfold State.srcG
  split
  · exact Access.keepsOthers_bind (memRead_keepsOthers _ _ _) fun _ t => .refl t
  · exact .refl s

theorem srcV_keepsOthers (s : State) (L : Nat) (d : Desc) (r : BitVec 5) : (s.srcV L d r).KeepsOthers s := by
  unfold State.srcV
  split
  · exact memRead_keepsOthers _ _ _
  · exact .refl s

theorem bitBase_keepsOthers (s : State) (w : Nat) (o : BitOffset) (d : Desc) : (s.bitBase w o d).KeepsOthers s := by
  unfold State.bitBase
  split
  · exact Access.keepsOthers_bind (memRead_keepsOthers _ _ _) fun _ t => .refl t
  · exact .refl s

/-- A handler whose body leaves every other EE as it was does so itself. -/
theorem runHandler_othersKept {sh : Shape} {need : FeatureNeed} {body : Desc → State → Access Unit} {d : Desc}
    {s t : State} (hbody : (body d s).KeepsOthers s) (h : runHandler sh need body d s = .next t) : OthersKept s t := by
  obtain rfl | ⟨g, u, hu, rfl⟩ | ⟨u, hu, rfl⟩ := runHandler_next h
  · exact .raise _ _
  · rw [hu] at hbody; exact OthersKept.trans hbody (.raise _ _)
  · rw [hu] at hbody; exact OthersKept.trans hbody (.advance _ _)

end Sys2Proof.Machine
end

section
/-! The meanings of the handler ROM (spec/30_encoding.md R118): each is one of the few bodies they share, so a property of every
instruction is proved by cases on these. -/

namespace Sys2Proof.Machine

/-- The bodies of the handlers (steps 4 to 7 of R180). -/
inductive HandlerBody : (Desc → State → Access Unit) → Prop where
  | bitTest (w : Nat) (o : BitOffset) (new : BitVec w → Nat → Option (BitVec w)) : HandlerBody (bitTest w o new)
  | bitScan (w : Nat) (index : BitVec w → Nat) : HandlerBody (bitScan w index)
  | popcnt (w : Nat) : HandlerBody (popcntBody w)
  | count (w : Nat) (f : BitVec w → Nat) : HandlerBody (countBody w f)
  | andn (w : Nat) : HandlerBody (andnBody w)
  | bextr (w : Nat) : HandlerBody (bextrBody w)
  | source (w : Nat) (f : BitVec w → BitVec w) (cf : BitVec w → Bool) : HandlerBody (sourceBody w f cf)
  | bzhi (w : Nat) : HandlerBody (bzhiBody w)
  | mulx (w : Nat) : HandlerBody (mulxBody w)
  | deposit (w : Nat) (f : BitVec w → BitVec w → BitVec w) : HandlerBody (depositBody w f)
  | rorx (w : Nat) : HandlerBody (rorxBody w)
  | shift (w : Nat) (f : BitVec w → Nat → BitVec w) : HandlerBody (shiftBody w f)
  | bextri (w : Nat) : HandlerBody (bextriBody w)
  | sseBinary (op : PackedOp) : HandlerBody (sseBinary op)
  | sseShift (w : Nat) (f : BitVec w → Nat → BitVec w) : HandlerBody (sseShift w f)
  | pshufd : HandlerBody pshufdBody
  | movdquLoad : HandlerBody movdquLoad
  | movdquStore : HandlerBody movdquStore
  | vecBinary (w : Nat) (op : PackedOp) : HandlerBody (vecBinary w op)
  | vecCompare (op : PackedOp) : HandlerBody (vecCompare op)
  | vecShift (w : Nat) (f : BitVec w → Nat → BitVec w) : HandlerBody (vecShift w f)
  | vpshufd : HandlerBody vpshufdBody
  | vmovdquLoad (w : Nat) : HandlerBody (vmovdquLoad w)
  | vmovdquStore (w : Nat) : HandlerBody (vmovdquStore w)
  | maskCompare (w : Nat) (pred : BitVec 3 → BitVec w → BitVec w → Bool) : HandlerBody (maskCompare w pred)
  | compress (w : Nat) : HandlerBody (compressBody w)
  | expand (w : Nat) : HandlerBody (expandBody w)
  | valign (w : Nat) : HandlerBody (valignBody w)
  | kmovToMask (b : Nat) : HandlerBody (kmovToMask b)
  | kmovToGpr (b w : Nat) : HandlerBody (kmovToGpr b w)
  | xopCompare (w : Nat) (pred : BitVec 3 → BitVec w → BitVec w → Bool) : HandlerBody (xopCompare w pred)
  | xopTernary (f : Packed → Packed → Packed → Packed) : HandlerBody (xopTernary f)

/-- A meaning of the ROM: the reserved handler, or one of the bodies under the handler contract. -/
inductive Meaning : (Desc → State → StepOutcome) → Prop where
  | illegal : Meaning execIllegal
  | handler (sh : Shape) (need : FeatureNeed) {body : Desc → State → Access Unit} (hbody : HandlerBody body) :
      Meaning (runHandler sh need body)

/-- Every row of the ROM holds such a meaning. -/
theorem meaning_of_mem_meanings : ∀ rows ∈ meanings, ∀ row ∈ rows, Meaning row.2 := by
  simp only [meanings, meaningsIllegal, meaningsBitOps, meaningsBmi, meaningsTbm, meaningsSimdS, meaningsSimdV,
    meaningsAvx512, meaningsXop, List.forall_mem_cons, List.not_mem_nil, false_implies, implies_true, and_true]
  refine ⟨.illegal, ?_⟩
  and_intros <;> exact .handler _ _ (by with_reducible constructor)

theorem meaningIn_mem {id : BitVec 10} {rows : List (BitVec 10 × (Desc → State → StepOutcome))}
    {f : Desc → State → StepOutcome} (h : meaningIn id rows = some f) : (id, f) ∈ rows := by
  induction rows with
  | nil => cases h
  | cons row rest ih =>
    unfold meaningIn at h
    split at h
    · rename_i hid
      cases h; subst hid
      exact List.mem_cons_self
    · exact List.mem_cons_of_mem _ (ih h)

theorem meaningAt_mem {id : BitVec 10} {tables : List (List (BitVec 10 × (Desc → State → StepOutcome)))}
    {f : Desc → State → StepOutcome} (h : meaningAt id tables = some f) : ∃ rows ∈ tables, (id, f) ∈ rows := by
  induction tables with
  | nil => cases h
  | cons rows rest ih =>
    unfold meaningAt at h
    split at h
    · rename_i g hg
      cases h
      exact ⟨rows, List.mem_cons_self, meaningIn_mem hg⟩
    · obtain ⟨rows', hmem, hf⟩ := ih h
      exact ⟨rows', List.mem_cons_of_mem _ hmem, hf⟩

/-- A descriptor word runs a meaning of the ROM, or raises `InvalidOpcode` where its id is unassigned. -/
theorem runWord_cases (w : DescWord) (s : State) :
    (∃ f, Meaning f ∧ runWord w s = f (decodeFields w) s) ∨ runWord w s = .next (s.raise .invalidOpcode) := by
  unfold runWord
  split
  · rename_i f hf
    obtain ⟨rows, hrows, hrow⟩ := meaningAt_mem hf
    exact .inl ⟨f, meaning_of_mem_meanings rows hrows _ hrow, rfl⟩
  · exact .inr rfl

end Sys2Proof.Machine
end

section
/-! An instruction writes registers of no EE but its own (spec/00_scope.md R4). -/

namespace Sys2Proof.Machine

theorem bitTest_keepsOthers (w : Nat) (o : BitOffset) (new : BitVec w → Nat → Option (BitVec w)) (d : Desc) (s : State) :
    (bitTest w o new d s).KeepsOthers s := by
  refine Access.keepsOthers_bind (bitBase_keepsOthers s w o d) fun base s₁ => ?_
  dsimp only
  split
  · exact .writeFlags _ _
  · split
    · exact Access.keepsOthers_bind (memWrite_keepsOthers _ _ _ _) fun _ s₂ => .writeFlags _ _
    · exact .setXFlags _ _ _ _

theorem bitScan_keepsOthers (w : Nat) (index : BitVec w → Nat) (d : Desc) (s : State) :
    (bitScan w index d s).KeepsOthers s := by
  refine Access.keepsOthers_bind (srcG_keepsOthers _ _ _ _) fun src s₁ => ?_
  split
  · exact .writeFlags _ _
  · exact .setXFlags _ _ _ _

theorem bzhi_keepsOthers (w : Nat) (d : Desc) (s : State) : (bzhiBody w d s).KeepsOthers s := by
  refine Access.keepsOthers_bind (srcG_keepsOthers _ _ _ _) fun v s₁ => ?_
  dsimp only
  split
  · exact .setXFlags _ _ _ _
  · exact .setXFlags _ _ _ _

theorem vmovdquLoad_keepsOthers (w : Nat) (d : Desc) (s : State) : (vmovdquLoad w d s).KeepsOthers s := by
  unfold vmovdquLoad
  split
  · exact Access.keepsOthers_bind (readElements_keepsOthers _ _ _) fun _ _ => .setVreg _ _ _
  · exact Access.keepsOthers_bind (srcV_keepsOthers _ _ _ _) fun _ _ => .setVreg _ _ _

theorem vmovdquStore_keepsOthers (w : Nat) (d : Desc) (s : State) : (vmovdquStore w d s).KeepsOthers s := by
  unfold vmovdquStore
  dsimp only
  split
  · exact memWrite_keepsOthers _ _ _ _
  · exact writeElements_keepsOthers _ _ _

theorem compress_keepsOthers (w : Nat) (d : Desc) (s : State) : (compressBody w d s).KeepsOthers s := by
  unfold compressBody
  dsimp only
  split
  · exact writeElements_keepsOthers _ _ _
  · exact .setVreg _ _ _

theorem expand_keepsOthers (w : Nat) (d : Desc) (s : State) : (expandBody w d s).KeepsOthers s := by
  unfold expandBody
  dsimp only
  split
  · exact Access.keepsOthers_bind (readElements_keepsOthers _ _ _) fun _ _ => .setVreg _ _ _
  · exact Access.keepsOthers_bind (srcV_keepsOthers _ _ _ _) fun _ _ => .setVreg _ _ _

/-- Every body reads its operands and then writes registers of the EE in focus, or stores. -/
theorem HandlerBody.keepsOthers {body : Desc → State → Access Unit} (hbody : HandlerBody body) (d : Desc) (s : State) :
    (body d s).KeepsOthers s := by
  cases hbody with
  | bitTest w o new => exact bitTest_keepsOthers w o new d s
  | bitScan w index => exact bitScan_keepsOthers w index d s
  | bzhi w => exact bzhi_keepsOthers w d s
  | popcnt | count | andn | bextr | source | bextri =>
    exact Access.keepsOthers_bind (srcG_keepsOthers _ _ _ _) fun _ _ => .setXFlags _ _ _ _
  | mulx => exact Access.keepsOthers_bind (srcG_keepsOthers _ _ _ _) fun _ t => (OthersKept.setX t _ _).trans (.setX _ _ _)
  | deposit | rorx | shift => exact Access.keepsOthers_bind (srcG_keepsOthers _ _ _ _) fun _ _ => .setX _ _ _
  | sseBinary | pshufd | movdquLoad | vecBinary | vecCompare | vecShift | vpshufd | valign | xopCompare | xopTernary =>
    exact Access.keepsOthers_bind (srcV_keepsOthers _ _ _ _) fun _ _ => .setVreg _ _ _
  | maskCompare => exact Access.keepsOthers_bind (srcV_keepsOthers _ _ _ _) fun _ _ => .setKreg _ _ _
  | sseShift => exact .setVreg _ _ _
  | kmovToMask => exact .setKreg _ _ _
  | kmovToGpr => exact .setX _ _ _
  | movdquStore => exact memWrite_keepsOthers _ _ _ _
  | vmovdquLoad w => exact vmovdquLoad_keepsOthers w d s
  | vmovdquStore w => exact vmovdquStore_keepsOthers w d s
  | compress w => exact compress_keepsOthers w d s
  | expand w => exact expand_keepsOthers w d s

theorem Meaning.othersKept {f : Desc → State → StepOutcome} (hf : Meaning f) {d : Desc} {s t : State}
    (h : f d s = .next t) : OthersKept s t := by
  cases hf with
  | illegal => cases h; exact .raise _ _
  | handler sh need hbody => exact runHandler_othersKept (hbody.keepsOthers d s) h

theorem runWord_othersKept {w : DescWord} {s t : State} (h : runWord w s = .next t) : OthersKept s t := by
  obtain ⟨f, hf, hrun⟩ | hrun := runWord_cases w s
  · exact hf.othersKept (hrun ▸ h)
  · rw [hrun] at h; cases h; exact .raise _ _

end Sys2Proof.Machine
end

section
/-! What each element of the schedule does to the registers of the EEs (spec/00_scope.md R4, spec/70_reset_and_hazards.md
R463): the calls on a LAPIC, the bus and the time facility reach no EE. -/

namespace Sys2Proof.Machine

/-! The CPU that acts. -/

/-- Moving the focus changes no CPU. -/
theorem focusOn_eq_some {s u : State} {c : Nat} (h : s.focusOn c = some u) : u.cpus = s.cpus ∧ u.focus = c := by
  unfold State.focusOn at h
  split at h
  · rename_i cpu above hdrop
    cases h
    have hlt : c < s.cpus.length := by
      by_contra hle
      rw [List.drop_eq_nil_of_le (not_lt.1 hle)] at hdrop
      cases hdrop
    constructor
    · change s.cpus.take c ++ cpu :: above = s.cpus
      rw [← hdrop, List.take_append_drop]
    · change (s.cpus.take c).length = c
      rw [List.length_take, Nat.min_eq_left hlt.le]
  · cases h

/-- An action of the agents of CPU `c` is taken with that CPU in focus. -/
theorem onCpu_next {s t : State} {c : Nat} {f : State → StepOutcome} (h : s.onCpu c f = .next t) :
    ∃ u, u.cpus = s.cpus ∧ u.focus = c ∧ f u = .next t := by
  unfold State.onCpu at h
  split at h
  · rename_i u hu
    obtain ⟨hcpus, hfocus⟩ := focusOn_eq_some hu
    exact ⟨u, hcpus, hfocus, h⟩
  · cases h

theorem onCpu_engines {s t : State} {c : Nat} {f : State → StepOutcome} (h : s.onCpu c f = .next t)
    (hf : ∀ {u}, f u = .next t → LapicOnly u t) : t.engines = s.engines := by
  obtain ⟨u, hcpus, -, hu⟩ := onCpu_next h
  rw [(hf hu).engines, State.engines, hcpus, State.engines]

theorem onCpu_engines_getElem? {s t : State} {c i : Nat} {f : State → StepOutcome} (h : s.onCpu c f = .next t)
    (hf : ∀ {u}, f u = .next t → OthersKept u t) (hi : i ≠ c) : t.engines[i]? = s.engines[i]? := by
  obtain ⟨u, hcpus, rfl, hu⟩ := onCpu_next h
  rw [(hf hu).engines_getElem? hi, State.engines, hcpus, State.engines]

/-! The calls of a controller. -/

theorem LapicOnly.output (s : State) (o : Output) : LapicOnly s (s.output o) :=
  ⟨rfl, rfl, rfl, rfl, rfl, rfl, rfl, rfl, rfl, rfl, rfl⟩

theorem LapicOnly.msrDone {s : State} {e : Except Invariant State} {r : Bool × State} (h : msrDone e = .ok r)
    (he : ∀ {u}, e = .ok u → LapicOnly s u) : LapicOnly s r.2 := by
  cases e with
  | ok u => cases h; exact he rfl
  | error i => cases h

theorem LapicOnly.x2apicWrite {s : State} {slot : BitVec 8} {hi lo : BitVec 32} {r : Bool × State}
    (h : s.x2apicWrite slot hi lo = .ok r) : LapicOnly s r.2 := by
  unfold State.x2apicWrite at h
  dsimp only at h
  split at h
  · cases h; exact .refl s
  · cases hreg : apicReg slot <;> rw [hreg] at h
    case eoi => exact .msrDone h .putChecked
    case icrLo => cases h; exact (LapicOnly.putLapic s _).trans (.sendIpi _ _ _)
    case tpr | selfIpi => cases h; exact .putLapic _ _
    case id | ldr | svr | esr | lvt | lvtTimer | timerInitial | timerDivide => exact .msrDone h .putQuiet
    all_goals cases h; exact .refl s

theorem runAcknowledge_lapicOnly {s t : State} (h : runAcknowledge s = .next t) : LapicOnly s t := by
  unfold runAcknowledge at h
  split at h
  · cases h; exact (LapicOnly.putLapic s _).trans (.output _ _)
  · cases h

theorem runMsrRead_lapicOnly {ix : BitVec 8} {s t : State} (h : runMsrRead ix s = .next t) : LapicOnly s t := by
  unfold runMsrRead at h
  split at h
  · cases h; exact (LapicOnly.putLapic s _).trans (.output _ _)
  · cases h

theorem runMsrWrite_lapicOnly {ix : BitVec 8} {hi lo : BitVec 32} {s t : State} (h : runMsrWrite ix hi lo s = .next t) :
    LapicOnly s t := by
  unfold runMsrWrite at h
  split at h
  · rename_i r hr
    cases h; exact (LapicOnly.x2apicWrite hr).trans (.output _ _)
  · cases h

theorem runSetMode_lapicOnly {m : ApicMode} {s t : State} (h : runSetMode m s = .next t) : LapicOnly s t := by
  cases h; exact (LapicOnly.putLapic s _).trans (.output _ _)

theorem runPeriodic_lapicOnly {s t : State} (h : runPeriodic s = .next t) : LapicOnly s t := by
  cases h
  split
  · exact .onLapic _ _ _
  · exact .refl s

/-! The time facility. -/

theorem advanceTime_engines (s : State) (ticks : Word) : (s.advanceTime ticks).engines = s.engines := by
  obtain ⟨h, -⟩ | ⟨i, l, -, -, -, -, h⟩ := advanceTime_cases s ticks
  · rw [h]; rfl
  · rw [h]
    exact (LapicOnly.onLapic { s with now := l.timerHandle.expiry } i _).engines

/-! The step. -/

/-- R4, R463: no element of the schedule but a descriptor, a software reset and the hardware reset writes a register of any EE. -/
theorem runInput_engines {i : Input} {s t : State} (h : runInput i s = .next t) (hd : ∀ c w, i ≠ .descriptor c w)
    (hs : ∀ c, i ≠ .softwareReset c) (hh : i ≠ .hardwareReset) : t.engines = s.engines := by
  cases i with
  | descriptor c w => exact absurd rfl (hd c w)
  | softwareReset c => exact absurd rfl (hs c)
  | hardwareReset => exact absurd rfl hh
  | acknowledgeInt c => exact onCpu_engines h runAcknowledge_lapicOnly
  | readX2apic c ix => exact onCpu_engines h runMsrRead_lapicOnly
  | writeX2apic c ix hi lo => exact onCpu_engines h runMsrWrite_lapicOnly
  | setMode c m => exact onCpu_engines h runSetMode_lapicOnly
  | periodic c => exact onCpu_engines h runPeriodic_lapicOnly
  | setTscDeadline c deadline => exact onCpu_engines h fun hu => by cases hu; exact .putLapic _ _
  | init c => exact onCpu_engines h fun hu => by cases hu; exact .putLapic _ _
  | triggerIrq c vec trig => exact onCpu_engines h fun hu => by cases hu; exact .putLapic _ _
  | getTscDeadline c => exact onCpu_engines h fun hu => by cases hu; exact .output _ _
  | busMessage dest dm lg trig vec =>
    cases h
    exact ((LapicOnly.busDeliver s false dest dm lg trig vec).trans (.output _ _)).engines
  | advanceTime ticks => cases h; exact advanceTime_engines s ticks
  | memWrite a b => cases h; rfl
  | memFaults rs => cases h; rfl

/-- The registers of `EE[c]` after one element of the schedule that may not change them. -/
theorem runInput_engines_getElem? {i : Input} {s t : State} {c : Nat} (h : runInput i s = .next t)
    (hd : ∀ w, i ≠ .descriptor c w) (hs : i ≠ .softwareReset c) (hh : i ≠ .hardwareReset) :
    t.engines[c]? = s.engines[c]? := by
  cases i with
  | descriptor c' w =>
    exact onCpu_engines_getElem? h runWord_othersKept fun e => hd w (by rw [e])
  | softwareReset c' =>
    exact onCpu_engines_getElem? h (fun hu => by cases hu; exact .softwareReset _) fun e => hs (by rw [e])
  | hardwareReset => exact absurd rfl hh
  | _ => rw [runInput_engines h (by simp) (by simp) (by simp)]

theorem step_of_inputs_cons {s : State} {i : Input} {rest : List Input} (h : s.inputs = i :: rest) :
    step s = runInput i { s with inputs := rest } := by
  unfold step
  rw [h]

/-- Settles O55: a descriptor or a software reset of another CPU keeps every EE but that CPU's own, and the other elements of
the schedule reach no EE. -/
theorem otherEnginesKeepTheirRegisters : Obligations.OtherEnginesKeepTheirRegisters := by
  intro s t i rest c hinputs hstep hd hs hh
  rw [step_of_inputs_cons hinputs] at hstep
  have hkept := runInput_engines_getElem? hstep hd hs hh
  rwa [State.engines_getElem?, State.engines_getElem?] at hkept

end Sys2Proof.Machine
end


section
/-! Properties that no instruction loses (spec/30_encoding.md R118, spec/40_primitives_flags_masking.md R180): a property
closed under the machine's own updates is closed under every handler. -/

namespace Sys2Proof.Machine

/-- Part of a handler leaves a state with `P`, whether it goes on, raises a signal or stops the machine. -/
def Access.Leaves {α : Type} (P : State → Prop) : Access α → Prop
  | .ok _ t     => P t
  | .raised _ t => P t
  | .stopped _  => True

theorem Access.leaves_bind {α β : Type} {P : State → Prop} {r : Access α} {f : α → State → Access β}
    (hr : r.Leaves P) (hf : ∀ v t, P t → (f v t).Leaves P) : (r.bind f).Leaves P := by
  cases r with
  | ok v t => exact hf v t hr
  | raised g t => exact hr
  | stopped i => trivial

theorem Access.leaves_undone {α : Type} {P : State → Prop} {s : State} {r : Access α} (hs : P s) (hr : r.Leaves P) :
    (r.undone s).Leaves P := by
  cases r with
  | ok v t => exact hr
  | raised g t => exact hs
  | stopped i => trivial

/-- A property that the writes of the registers, the two ends of a handler, and an access of memory or of the window keep. -/
structure HandlerInvariant (P : State → Prop) : Prop where
  setGpr     : ∀ {s : State} (i : Nat) (x : Word), P s → P (s.setGpr i x)
  setVreg    : ∀ {s : State} (r : Nat) (x : Packed), P s → P (s.setVreg r x)
  setKreg    : ∀ {s : State} (k : Nat) (x : Word), P s → P (s.setKreg k x)
  writeFlags : ∀ {s : State} (u : FlagUpdate), P s → P (s.writeFlags u)
  advance    : ∀ {s : State} (n : BitVec 4), P s → P (s.advance n)
  raise      : ∀ {s : State} (g : FaultSignal), P s → P (s.raise g)
  store      : ∀ {s : State} (a : Word) (v : Packed) (n : Nat), P s → P { s with mem := Memory.writeBytes s.mem a v n }
  mmioRead   : ∀ {s : State} {slot : BitVec 8} {r : BitVec 32 × LapicEff}, P s →
    s.cpu.lapic.mmioRead s.cfg s.now slot = .ok r → P (s.putLapic r.2)
  mmioWrite  : ∀ {s t : State} {slot : BitVec 8} {v : BitVec 32}, P s → s.mmioWrite slot v = .ok t → P t

namespace HandlerInvariant
variable {P : State → Prop}

theorem setX (hP : HandlerInvariant P) {s : State} {w : Nat} (i : BitVec 5) (v : BitVec w) (hs : P s) : P (s.setX i v) :=
  hP.setGpr _ _ hs

theorem setXFlags (hP : HandlerInvariant P) {s : State} {w : Nat} (i : BitVec 5) (v : BitVec w) (u : FlagUpdate)
    (hs : P s) : P ((s.setX i v).writeFlags u) :=
  hP.writeFlags u (hP.setX i v hs)

/-! Accesses of memory. -/

theorem memRead (hP : HandlerInvariant P) {s : State} (hs : P s) (a : Word) (n : Nat) : (s.memRead a n).Leaves P := by
  cases h : s.memRead a n with
  | ok v t =>
    obtain ⟨-, -, rfl, -⟩ | ⟨slot, r, -, hr, -, rfl⟩ := memRead_ok h
    · exact hs
    · exact hP.mmioRead hs hr
  | raised g t => exact memRead_raised h ▸ hs
  | stopped i => trivial

theorem memWrite (hP : HandlerInvariant P) {s : State} (hs : P s) (a : Word) (n : Nat) (v : Packed) :
    (s.memWrite a n v).Leaves P := by
  cases h : s.memWrite a n v with
  | ok _ t =>
    obtain ⟨-, -, rfl⟩ | ⟨slot, -, ht⟩ := memWrite_ok h
    · exact hP.store a v n hs
    · exact hP.mmioWrite hs ht
  | raised g t => exact memWrite_raised h ▸ hs
  | stopped i => trivial

theorem readElements (hP : HandlerInvariant P) {s : State} (hs : P s) (w : Nat) (as : List Word) :
    (s.readElements w as).Leaves P := by
  induction as generalizing s with
  | nil => exact hs
  | cons a as ih =>
    exact Access.leaves_undone hs (Access.leaves_bind (hP.memRead hs a (w / 8)) fun v t ht =>
      Access.leaves_bind (ih ht) fun _ _ hu => hu)

theorem writeElements (hP : HandlerInvariant P) {s : State} (hs : P s) (w : Nat) (es : List (Word × BitVec w)) :
    (s.writeElements w es).Leaves P := by
  induction es generalizing s with
  | nil => exact hs
  | cons e es ih => exact Access.leaves_bind (hP.memWrite hs _ _ _) fun _ t ht => ih ht

/-! Operands. -/

theorem srcG (hP : HandlerInvariant P) {s : State} (hs : P s) (w : Nat) (d : Desc) (r : BitVec 5) :
    (s.srcG w d r).Leaves P := by
  unfold State.srcG
  split
  · exact Access.leaves_bind (hP.memRead hs _ _) fun _ _ ht => ht
  · exact hs

theorem srcV (hP : HandlerInvariant P) {s : State} (hs : P s) (L : Nat) (d : Desc) (r : BitVec 5) :
    (s.srcV L d r).Leaves P := by
  unfold State.srcV
  split
  · exact hP.memRead hs _ _
  · exact hs

theorem bitBase (hP : HandlerInvariant P) {s : State} (hs : P s) (w : Nat) (o : BitOffset) (d : Desc) :
    (s.bitBase w o d).Leaves P := by
  unfold State.bitBase
  split
  · exact Access.leaves_bind (hP.memRead hs _ _) fun _ _ ht => ht
  · exact hs

/-! The bodies. -/

theorem bitTest (hP : HandlerInvariant P) {s : State} (hs : P s) (w : Nat) (o : BitOffset)
    (new : BitVec w → Nat → Option (BitVec w)) (d : Desc) : (Machine.bitTest w o new d s).Leaves P := by
  refine Access.leaves_bind (hP.bitBase hs w o d) fun base s₁ hs₁ => ?_
  dsimp only
  split
  · exact hP.writeFlags _ hs₁
  · split
    · exact Access.leaves_bind (hP.memWrite hs₁ _ _ _) fun _ s₂ hs₂ => hP.writeFlags _ hs₂
    · exact hP.setXFlags _ _ _ hs₁

theorem bitScan (hP : HandlerInvariant P) {s : State} (hs : P s) (w : Nat) (index : BitVec w → Nat) (d : Desc) :
    (Machine.bitScan w index d s).Leaves P := by
  refine Access.leaves_bind (hP.srcG hs _ _ _) fun src s₁ hs₁ => ?_
  split
  · exact hP.writeFlags _ hs₁
  · exact hP.setXFlags _ _ _ hs₁

theorem bzhi (hP : HandlerInvariant P) {s : State} (hs : P s) (w : Nat) (d : Desc) : (bzhiBody w d s).Leaves P := by
  refine Access.leaves_bind (hP.srcG hs _ _ _) fun v s₁ hs₁ => ?_
  dsimp only
  split
  · exact hP.setXFlags _ _ _ hs₁
  · exact hP.setXFlags _ _ _ hs₁

theorem vmovdquLoad (hP : HandlerInvariant P) {s : State} (hs : P s) (w : Nat) (d : Desc) :
    (Machine.vmovdquLoad w d s).Leaves P := by
  unfold Machine.vmovdquLoad
  split
  · exact Access.leaves_bind (hP.readElements hs _ _) fun _ _ ht => hP.setVreg _ _ ht
  · exact Access.leaves_bind (hP.srcV hs _ _ _) fun _ _ ht => hP.setVreg _ _ ht

theorem vmovdquStore (hP : HandlerInvariant P) {s : State} (hs : P s) (w : Nat) (d : Desc) :
    (Machine.vmovdquStore w d s).Leaves P := by
  unfold Machine.vmovdquStore
  dsimp only
  split
  · exact hP.memWrite hs _ _ _
  · exact hP.writeElements hs _ _

theorem compress (hP : HandlerInvariant P) {s : State} (hs : P s) (w : Nat) (d : Desc) :
    (compressBody w d s).Leaves P := by
  unfold compressBody
  dsimp only
  split
  · exact hP.writeElements hs _ _
  · exact hP.setVreg _ _ hs

theorem expand (hP : HandlerInvariant P) {s : State} (hs : P s) (w : Nat) (d : Desc) : (expandBody w d s).Leaves P := by
  unfold expandBody
  dsimp only
  split
  · exact Access.leaves_bind (hP.readElements hs _ _) fun _ _ ht => hP.setVreg _ _ ht
  · exact Access.leaves_bind (hP.srcV hs _ _ _) fun _ _ ht => hP.setVreg _ _ ht

/-- Every body is made of accesses and register writes. -/
theorem handlerBody (hP : HandlerInvariant P) {s : State} (hs : P s) {body : Desc → State → Access Unit}
    (hbody : HandlerBody body) (d : Desc) : (body d s).Leaves P := by
  cases hbody with
  | bitTest w o new => exact hP.bitTest hs w o new d
  | bitScan w index => exact hP.bitScan hs w index d
  | bzhi w => exact hP.bzhi hs w d
  | popcnt | count | andn | bextr | source | bextri =>
    exact Access.leaves_bind (hP.srcG hs _ _ _) fun _ _ ht => hP.setXFlags _ _ _ ht
  | mulx => exact Access.leaves_bind (hP.srcG hs _ _ _) fun _ _ ht => hP.setX _ _ (hP.setX _ _ ht)
  | deposit | rorx | shift => exact Access.leaves_bind (hP.srcG hs _ _ _) fun _ _ ht => hP.setX _ _ ht
  | sseBinary | pshufd | movdquLoad | vecBinary | vecCompare | vecShift | vpshufd | valign | xopCompare | xopTernary =>
    exact Access.leaves_bind (hP.srcV hs _ _ _) fun _ _ ht => hP.setVreg _ _ ht
  | maskCompare => exact Access.leaves_bind (hP.srcV hs _ _ _) fun _ _ ht => hP.setKreg _ _ ht
  | sseShift => exact hP.setVreg _ _ hs
  | kmovToMask => exact hP.setKreg _ _ hs
  | kmovToGpr => exact hP.setX _ _ hs
  | movdquStore => exact hP.memWrite hs _ _ _
  | vmovdquLoad w => exact hP.vmovdquLoad hs w d
  | vmovdquStore w => exact hP.vmovdquStore hs w d
  | compress w => exact hP.compress hs w d
  | expand w => exact hP.expand hs w d

/-! The meanings. -/

theorem meaning (hP : HandlerInvariant P) {f : Desc → State → StepOutcome} (hf : Meaning f) {d : Desc} {s t : State}
    (hs : P s) (h : f d s = .next t) : P t := by
  cases hf with
  | illegal => cases h; exact hP.raise _ hs
  | handler sh need hbody =>
    have hleaves := hP.handlerBody hs hbody d
    obtain rfl | ⟨g, u, hu, rfl⟩ | ⟨u, hu, rfl⟩ := runHandler_next h
    · exact hP.raise _ hs
    · rw [hu] at hleaves; exact hP.raise g hleaves
    · rw [hu] at hleaves; exact hP.advance _ hleaves

theorem runWord (hP : HandlerInvariant P) {w : DescWord} {s t : State} (hs : P s) (h : runWord w s = .next t) : P t := by
  obtain ⟨f, hf, hrun⟩ | hrun := runWord_cases w s
  · exact hP.meaning hf hs (hrun ▸ h)
  · rw [hrun] at h; cases h; exact hP.raise _ hs

end HandlerInvariant

/-- Every instruction runs a meaning of the ROM on its descriptor. -/
theorem exec_meaning (i : Instr) : ∃ f, Meaning f ∧ ∀ s, exec i s = f i.desc s := by
  cases i
  case illegal d => exact ⟨execIllegal, .illegal, fun _ => rfl⟩
  all_goals exact ⟨runHandler _ _ _, .handler _ _ (by with_reducible constructor), fun _ => rfl⟩

theorem HandlerInvariant.exec {P : State → Prop} (hP : HandlerInvariant P) {i : Instr} {s t : State} (hs : P s)
    (h : exec i s = .next t) : P t := by
  obtain ⟨f, hf, hexec⟩ := exec_meaning i
  exact hP.meaning hf hs (hexec s ▸ h)

end Sys2Proof.Machine
end

section
/-! The bits of RFLAGS that are no condition flag (spec/10_state.md R15, R17). -/

namespace Sys2Proof.Machine

theorem getLsbD_conditionFlags {j : Nat} (hj : j < 64) :
    conditionFlags.getLsbD j = decide (j ∈ [0, 2, 4, 6, 7, 11]) := by
  revert j; decide

/-- Two values of RFLAGS agree outside the condition flags when they agree bit by bit there. -/
theorem held_eq_iff {x y : Word} :
    x &&& ~~~ conditionFlags = y &&& ~~~ conditionFlags ↔
      ∀ j < 64, j ∉ [0, 2, 4, 6, 7, 11] → x.getLsbD j = y.getLsbD j := by
  constructor
  · intro h j hj hn
    have hbit := congrArg (BitVec.getLsbD · j) h
    simpa only [BitVec.getLsbD_and, BitVec.getLsbD_not, getLsbD_conditionFlags hj, hj, hn, decide_true, decide_false,
      Bool.not_false, Bool.and_true] using hbit
  · intro h
    apply BitVec.eq_of_getLsbD_eq
    intro j hj
    simp only [BitVec.getLsbD_and, BitVec.getLsbD_not, getLsbD_conditionFlags hj]
    by_cases hn : j ∈ [0, 2, 4, 6, 7, 11]
    · simp only [hn, decide_true, Bool.not_true, Bool.and_false]
    · rw [h j hj hn]

/-- RFLAGS outside the condition flags is what it is in `x`. -/
def State.HoldsFlags (x : Word) (s : State) : Prop :=
  s.rflags &&& ~~~ conditionFlags = x &&& ~~~ conditionFlags

theorem writeFlags_held (s : State) (u : FlagUpdate) :
    (s.writeFlags u).rflags &&& ~~~ conditionFlags = s.rflags &&& ~~~ conditionFlags := by
  rw [writeFlags_rflags, held_eq_iff]
  intro j _ hj
  simp only [List.mem_cons, List.not_mem_nil, or_false, not_or] at hj
  simp [getLsbD_flagUpdate, hj]

theorem holdsFlags_handlerInvariant (x : Word) : HandlerInvariant (State.HoldsFlags x) where
  setGpr _ _ hs := hs
  setVreg _ _ hs := hs
  setKreg _ _ hs := hs
  writeFlags {s} u hs := (writeFlags_held s u).trans hs
  advance _ hs := hs
  raise _ hs := hs
  store _ _ _ hs := hs
  mmioRead hs _ := hs
  mmioWrite hs h := by
    unfold State.HoldsFlags
    rw [(LapicOnly.mmioWrite h).rflags]
    exact hs

/-- Settles O6: only flag updates write RFLAGS, and each writes the six flags alone. -/
theorem otherFlagBitsAreHeld : Obligations.OtherFlagBitsAreHeld := by
  refine ⟨fun i s t h => ?_, rfl⟩
  have hheld : t.HoldsFlags s.rflags := (holdsFlags_handlerInvariant s.rflags).exec rfl h
  exact held_eq_iff.1 hheld

end Sys2Proof.Machine
end

section
/-! The relations between the fields of one LAPIC (spec/10_state.md R30 to R67): every operation keeps them. -/

namespace Sys2Proof.Machine

/-! The bitmaps, vector by vector. -/

theorem bmTest_ofNat (m : Bitmap) {n j : Nat} (hn : n < 8) (hj : j < 32) :
    bmTest m (BitVec.ofNat 8 (32 * n + j)) = (bmWord m n).getLsbD j := by
  have hv : (BitVec.ofNat 8 (32 * n + j)).toNat = 32 * n + j := by rw [BitVec.toNat_ofNat]; omega
  rw [bmTest, hv, show (32 * n + j) / 32 = n by omega, show (32 * n + j) % 32 = j by omega]

/-- A bitmap has a non-zero word when it holds a vector. -/
theorem exists_word_ne_zero_iff (m : Bitmap) :
    (∃ n : Fin 8, bmWord m n.val ≠ 0#32) ↔ ∃ v, bmTest m v = true := by
  constructor
  · rintro ⟨n, hn⟩
    by_contra hall
    refine hn (BitVec.eq_of_getLsbD_eq fun j hj => ?_)
    rw [← bmTest_ofNat m n.isLt hj, BitVec.getLsbD_zero]
    exact Bool.eq_false_iff.2 fun hv => hall ⟨_, hv⟩
  · rintro ⟨v, hv⟩
    refine ⟨⟨v.toNat / 32, vector_word_lt v⟩, fun hzero => ?_⟩
    rw [bmTest, hzero, BitVec.getLsbD_zero] at hv
    cases hv

/-- R32 (c), R363, vector by vector: a vector in a bitmap is at least 16, and one in the trigger-mode bitmap is pending or in
service. -/
theorem Lapic.bitmapInv_iff (l : Lapic) :
    l.BitmapInv ↔ (∀ v, (bmTest l.irr v || bmTest l.isr v || bmTest l.tmr v) = true → 16 ≤ v.toNat) ∧
      ∀ v, bmTest l.tmr v = true → (bmTest l.irr v || bmTest l.isr v) = true := by
  have hlow {j : Nat} (hj : j < 32) : (0xFFFF#32).getLsbD j = decide (j < 16) := by revert j; decide
  constructor
  · rintro ⟨hzero, hsub⟩
    constructor
    · intro v hv
      by_contra hlt
      have hbit := congrArg (BitVec.getLsbD · v.toNat) hzero
      simp only [BitVec.getLsbD_and, BitVec.getLsbD_or, hlow (show v.toNat < 32 by omega), BitVec.getLsbD_zero] at hbit
      simp only [bmTest, show v.toNat / 32 = 0 by omega, show v.toNat % 32 = v.toNat by omega] at hv
      simp [hv, show v.toNat < 16 by omega] at hbit
    · intro v hv
      have hbit := congrArg (BitVec.getLsbD · (v.toNat % 32)) (hsub ⟨v.toNat / 32, vector_word_lt v⟩)
      have hj : v.toNat % 32 < 32 := by omega
      simpa [bmTest, hj, show (bmWord l.tmr (v.toNat / 32)).getLsbD (v.toNat % 32) = true from hv, or_iff_not_imp_left]
        using hbit
  · rintro ⟨hbound, hsub⟩
    constructor
    · refine BitVec.eq_of_getLsbD_eq fun j hj => ?_
      simp only [BitVec.getLsbD_and, BitVec.getLsbD_or, hlow hj, BitVec.getLsbD_zero]
      have hv := hbound (BitVec.ofNat 8 (32 * 0 + j))
      simp only [bmTest_ofNat _ (show 0 < 8 by omega) hj, BitVec.toNat_ofNat] at hv
      by_cases hj16 : j < 16
      · simp only [hj16, decide_true, Bool.and_true]
        exact Bool.eq_false_iff.2 fun h => by have := hv h; omega
      · simp [hj16]
    · intro n
      refine BitVec.eq_of_getLsbD_eq fun j hj => ?_
      have hv := hsub (BitVec.ofNat 8 (32 * n.val + j))
      simp only [bmTest_ofNat _ n.isLt hj] at hv
      simp only [BitVec.getLsbD_and, BitVec.getLsbD_or, BitVec.getLsbD_not, hj, decide_true, Bool.true_and,
        BitVec.getLsbD_zero]
      cases ht : (bmWord l.tmr n.val).getLsbD j with
      | false => rfl
      | true => rw [hv ht]; rfl

/-- A change at one vector keeps the relations of the bitmaps when they hold of that vector after it. -/
theorem Lapic.BitmapInv.of_vector {l m : Lapic} (h : l.BitmapInv) (v : BitVec 8)
    (hother : ∀ u, u ≠ v →
      bmTest m.irr u = bmTest l.irr u ∧ bmTest m.isr u = bmTest l.isr u ∧ bmTest m.tmr u = bmTest l.tmr u)
    (hbound : (bmTest m.irr v || bmTest m.isr v || bmTest m.tmr v) = true → 16 ≤ v.toNat)
    (hsub : bmTest m.tmr v = true → (bmTest m.irr v || bmTest m.isr v) = true) : m.BitmapInv := by
  obtain ⟨hboundAll, hsubAll⟩ := (Lapic.bitmapInv_iff l).1 h
  refine (Lapic.bitmapInv_iff m).2 ⟨fun u => ?_, fun u => ?_⟩
  · by_cases hu : u = v
    · exact hu ▸ hbound
    · obtain ⟨hirr, hisr, htmr⟩ := hother u hu
      rw [hirr, hisr, htmr]
      exact hboundAll u
  · by_cases hu : u = v
    · exact hu ▸ hsub
    · obtain ⟨hirr, hisr, htmr⟩ := hother u hu
      rw [hirr, hisr, htmr]
      exact hsubAll u
/-- R364: the signal is asserted only while some vector is pending. -/
theorem Lapic.signalInv_iff (l : Lapic) : l.SignalInv ↔ (l.intrPending = true → ∃ v, bmTest l.irr v = true) := by
  rw [Lapic.SignalInv, exists_word_ne_zero_iff]

/-- The scan finds a vector only in a bitmap that holds one. -/
theorem scanDown_eq_some {masked : Bool} {ier map : Bitmap} {n : Nat} {v : BitVec 8} (hn : n ≤ 8)
    (h : scanDown masked ier map n = some v) : ∃ k : Fin 8, bmWord map k.val ≠ 0#32 := by
  induction n with
  | zero => cases h
  | succ n ih =>
    by_cases hword : bmWord map n = 0#32
    · refine ih (by omega) ?_
      simpa [scanDown, hword] using h
    · exact ⟨⟨n, hn⟩, hword⟩

/-- The handle of the timer has no part in `trigger_irq`. -/
theorem Lapic.triggerIrq_timerHandle (cfg : Config) (v : BitVec 8) (trig : Trigger) (bypass : Bool) (l : Lapic)
    (handle : TimerHandle) :
    (Lapic.triggerIrq cfg v trig bypass { l with timerHandle := handle }).1 =
      { (l.triggerIrq cfg v trig bypass).1 with timerHandle := handle } := by
  unfold Lapic.triggerIrq
  dsimp only
  split
  · rfl
  · split
    · rfl
    · rw [Lapic.service_eq, Lapic.service_eq]; rfl

namespace Lapic.Inv
variable {cfg : Config} {l : Lapic}

/-! The interrupt machinery (R361 to R376). -/

/-- R364: the signal is given for a pending vector only. -/
theorem service (h : l.Inv cfg) : (l.service cfg).1.Inv cfg := by
  obtain ⟨hbitmap, hsignal, htimer, hfield, hmode⟩ := h
  rw [Lapic.service_eq]
  refine ⟨hbitmap, fun hpending => ?_, htimer, hfield, hmode⟩
  obtain hpending | hsignals := Bool.or_eq_true_iff.1 hpending
  · exact hsignal hpending
  · obtain ⟨-, v, hv, -, -⟩ := (Lapic.signals_iff cfg l).1 hsignals
    exact scanDown_eq_some le_rfl hv

/-- R434: an error bit that is one of the three the LAPIC records. -/
theorem recordError (h : l.Inv cfg) {bits : BitVec 32} (hbits : bits &&& ~~~ 0xC4#32 = 0#32) :
    (l.recordError bits).Inv cfg := by
  obtain ⟨hbitmap, hsignal, htimer, ⟨htimerLvt, hlvt, hicr, hext, herror⟩, hmode⟩ := h
  refine ⟨hbitmap, hsignal, htimer, ⟨htimerLvt, hlvt, hicr, hext, ?_⟩, hmode⟩
  simp only [Lapic.recordError]
  rw [← BitVec.or_assoc, BitVec.and_or_distrib_right, herror, hbits, BitVec.or_zero]

theorem illegalAddress (h : l.Inv cfg) : l.illegalAddress.2.1.Inv cfg :=
  h.recordError (by decide)

/-- R363: a vector that becomes pending is at least 16, and its trigger-mode bit is written with it. -/
theorem triggerIrq (h : l.Inv cfg) (v : BitVec 8) (trig : Trigger) (bypass : Bool) :
    (l.triggerIrq cfg v trig bypass).1.Inv cfg := by
  unfold Lapic.triggerIrq
  split
  · exact h.recordError (by decide)
  · rename_i hclass
    split
    · exact h
    · obtain ⟨hbitmap, -, htimer, hfield, hmode⟩ := h
      have hv : 16 ≤ v.toNat := not_lt.1 fun hlt => hclass (prioClass_eq_zero.2 hlt)
      refine service ⟨?_, ?_, htimer, hfield, hmode⟩
      · refine hbitmap.of_vector v (fun u hu => ?_) (fun _ => hv) fun _ => by simp [bmTest_bmSet]
        cases trig <;> simp [bmTest_bmSet, bmTest_bmClear, hu]
      · exact (Lapic.signalInv_iff _).2 fun _ => ⟨v, by simp [bmTest_bmSet]⟩

/-- R365: a vector that is accepted is above the processor priority, so at least 16, and goes from pending to in service. -/
theorem accept (h : l.Inv cfg) : (l.accept cfg).2.1.Inv cfg := by
  obtain ⟨hbitmap, -, htimer, hfield, hmode⟩ := h
  have hcleared : Lapic.Inv cfg { l with intrPending := false } :=
    ⟨hbitmap, (by intro hpending; cases hpending), htimer, hfield, hmode⟩
  unfold Lapic.accept
  dsimp only
  split
  · exact hcleared
  · rename_i v _
    split
    · exact hcleared
    · rename_i hclass
      have hv : 16 ≤ v.toNat := by rw [not_le, prioClass_toNat v] at hclass; omega
      refine service ⟨?_, (by intro hpending; cases hpending), htimer, hfield, hmode⟩
      refine hbitmap.of_vector v (fun u hu => ?_) (fun _ => hv) fun _ => by simp [bmTest_bmSet]
      simp [bmTest_bmSet, bmTest_bmClear, hu]

theorem acknowledgeInt (h : l.Inv cfg) {r : BitVec 8 × LapicEff} (hr : l.acknowledgeInt cfg = .ok r) :
    r.2.1.Inv cfg := by
  unfold Lapic.acknowledgeInt violation at hr
  split at hr
  · cases hr; exact h.accept
  · split at hr <;> cases hr
    exact h

/-- R366: a vector that leaves service takes its trigger-mode bit with it. -/
theorem endOfInterrupt (h : l.Inv cfg) (v : BitVec 8) : (l.endOfInterrupt cfg v).1.Inv cfg := by
  obtain ⟨hbitmap, hsignal, htimer, hfield, hmode⟩ := h
  obtain ⟨hbound, -⟩ := (Lapic.bitmapInv_iff l).1 hbitmap
  unfold Lapic.endOfInterrupt
  dsimp only
  split
  · refine service ⟨hbitmap.of_vector v (fun u hu => ?_) (fun hv => hbound v ?_) ?_, hsignal, htimer, hfield, hmode⟩
    · simp [bmTest_bmClear, hu]
    · simp_all [bmTest_bmClear]
    · simp [bmTest_bmClear]
  · rename_i hlevel
    refine service ⟨hbitmap.of_vector v (fun u hu => ?_) (fun hv => hbound v ?_) ?_, hsignal, htimer, hfield, hmode⟩
    · simp [bmTest_bmClear, hu]
    · simp_all [bmTest_bmClear]
    · simp [hlevel]

theorem receiveEoi (h : l.Inv cfg) {r : LapicEff} (hr : l.receiveEoi cfg = .ok r) : r.1.Inv cfg := by
  unfold Lapic.receiveEoi violation at hr
  split at hr
  · split at hr <;> cases hr
    exact h
  · cases hr; exact h.endOfInterrupt _

theorem receiveSeoi (h : l.Inv cfg) (v : BitVec 8) : (l.receiveSeoi cfg v).1.Inv cfg := by
  unfold Lapic.receiveSeoi
  split
  · exact h.endOfInterrupt v
  · exact h

theorem setTpr (h : l.Inv cfg) (p : BitVec 8) : (l.setTpr cfg p).1.Inv cfg :=
  service (l := { l with taskPriority := p }) h

theorem deliver (h : l.Inv cfg) (dm : BitVec 3) (vec : BitVec 8) (trig : Trigger) :
    (l.deliver cfg dm vec trig).1.Inv cfg := by
  unfold Lapic.deliver
  split
  · exact h.triggerIrq _ _ _
  · exact h.triggerIrq _ _ _
  · exact h
  · exact h
  · exact h
  · exact h
  · exact h
  · exact h.triggerIrq _ _ _

/-! The timer (R400 to R410). -/

theorem armed_eq (h : l.Inv cfg) : l.timerHandle.armed = l.timerActive := by
  obtain ⟨-, -, ⟨-, -, harmed⟩, -, -⟩ := h
  exact harmed

/-- The counts, the handle and the activity may be anything in which the handle is armed exactly while the timer is active. -/
theorem retimed (h : l.Inv cfg) (initial current : BitVec 32) (active : Bool) (ticks : Word) (handle : TimerHandle)
    (harmed : handle.armed = active) :
    Lapic.Inv cfg { l with timerInitial := initial, timerCurrent := current, timerActive := active,
                           ticksInitial := ticks, timerHandle := handle } := by
  obtain ⟨hbitmap, hsignal, ⟨hfactor, hconf, -⟩, hfield, hmode⟩ := h
  exact ⟨hbitmap, hsignal, ⟨hfactor, hconf, harmed⟩, hfield, hmode⟩

theorem stopTimer (h : l.Inv cfg) : l.stopTimer.Inv cfg := by
  rw [Lapic.stopTimer_eq]
  exact h.retimed _ _ _ _ _ (by simp [h.armed_eq])

theorem setDivide (h : l.Inv cfg) (value : BitVec 32) : (l.setDivide value).Inv cfg := by
  obtain ⟨hbitmap, hsignal, ⟨-, -, harmed⟩, hfield, hmode⟩ := h
  refine ⟨hbitmap, hsignal, ⟨rfl, ?_, harmed⟩, hfield, hmode⟩
  simp [Lapic.setDivide]

theorem setInitialCount (h : l.Inv cfg) (now : Word) (value : BitVec 32) : (l.setInitialCount now value).Inv cfg := by
  unfold Lapic.setInitialCount
  dsimp only
  split
  · exact h
  · split
    · exact h.stopTimer.retimed _ _ _ _ _ h.stopTimer.armed_eq
    · exact h.stopTimer.retimed _ _ _ _ _ rfl

theorem currentCount (h : l.Inv cfg) {now : Word} {r : BitVec 32 × LapicEff} (hr : l.currentCount cfg now = .ok r) :
    r.2.1.Inv cfg := by
  unfold Lapic.currentCount violation at hr
  split at hr
  · cases hr; exact h
  · split at hr
    · cases hr; exact h
    · split at hr
      · split at hr <;> cases hr
        exact h
      · cases hr; exact h

/-- R406: a callback whose handle the facility has disarmed re-arms it, or stops the timer. -/
theorem rearm (h : l.Inv cfg) (hactive : l.timerActive = true) (now : Word) (handle : TimerHandle) :
    (Lapic.rearm now { l with timerHandle := handle }).Inv cfg := by
  unfold Lapic.rearm
  split
  · exact h.retimed _ _ _ _ _ rfl
  · split
    · exact h.retimed _ _ _ _ _ hactive.symm
    · exact h.retimed _ _ _ _ _ rfl

/-- R70, R406: the facility disarms the handle of an armed timer, and invokes the callback. -/
theorem periodic_deactivateTimer (h : l.Inv cfg) (now : Word) : (l.deactivateTimer.periodic cfg now).1.Inv cfg := by
  unfold Lapic.periodic
  split
  · rename_i hinactive
    have hinactive : l.timerActive = false := by simpa [Lapic.deactivateTimer] using hinactive
    exact h.retimed _ _ _ _ _ hinactive.symm
  · rename_i hactive
    have hactive : l.timerActive = true := by simpa [Lapic.deactivateTimer] using hactive
    dsimp only [LapicEff.andThen]
    split
    · exact h.rearm hactive now _
    · rw [Lapic.deactivateTimer, Lapic.triggerIrq_timerHandle]
      refine (h.triggerIrq _ _ _).rearm ?_ now _
      rw [Lapic.triggerIrq_keeps]
      exact hactive

theorem setDeadline (h : l.Inv cfg) (now deadline : Word) : (l.setDeadline now deadline).Inv cfg := by
  unfold Lapic.setDeadline
  dsimp only
  split
  · exact h
  · split
    · exact h.stopTimer.retimed _ _ _ _ _ h.stopTimer.armed_eq
    · exact h.stopTimer.retimed _ _ _ _ _ rfl

end Lapic.Inv

end Sys2Proof.Machine
end

section
/-! The registers of one LAPIC, its modes and its resets: the relations between its fields are kept (spec/10_state.md R42 to
R67, spec/60_exceptions.md R390, R410, R421 to R436, spec/70_reset_and_hazards.md R462). -/

namespace Sys2Proof.Machine

/-- The register, if it is an LVT entry other than the timer's, is one of the entries 1 to 6. -/
def ApicReg.lvtInRange : ApicReg → Bool
  | .lvt i => decide (1 ≤ i ∧ i < 7)
  | _      => true

theorem lvtInRange_apicReg (slot : BitVec 8) : (apicReg slot).lvtInRange = true := by
  revert slot; decide

/-- R42: the LVT slots of the register map, the timer's apart, are those of the entries 1 to 6. -/
theorem apicReg_eq_lvt {slot : BitVec 8} {i : Nat} (h : apicReg slot = .lvt i) : 1 ≤ i ∧ i < 7 := by
  have hrange := lvtInRange_apicReg slot
  rw [h] at hrange
  exact of_decide_eq_true hrange

/-- What a read of the window leaves: the LAPIC, the LAPIC with an illegal address recorded, or what the read of the current
count leaves. -/
theorem Lapic.mmioRead_cases {cfg : Config} {l : Lapic} {now : Word} {slot : BitVec 8} {r : BitVec 32 × LapicEff}
    (hr : l.mmioRead cfg now slot = .ok r) :
    r.2.1 = l ∨ r.2.1 = l.illegalAddress.2.1 ∨ l.currentCount cfg now = .ok r := by
  unfold Lapic.mmioRead at hr
  cases hreg : apicReg slot <;> rw [hreg] at hr
  case timerCurrent => exact .inr (.inr hr)
  case selfIpi | undefined => obtain rfl := Except.ok.inj hr; exact .inr (.inl rfl)
  case extFeature | extControl | seoi | ier =>
    dsimp only at hr
    split at hr
    · obtain rfl := Except.ok.inj hr; exact .inl rfl
    · obtain rfl := Except.ok.inj hr; exact .inr (.inl rfl)
  all_goals obtain rfl := Except.ok.inj hr; exact .inl rfl

/-- What a read of the MSR view leaves: the LAPIC, or what the read of the window leaves. -/
theorem Lapic.x2apicRead_cases {cfg : Config} {l : Lapic} {now : Word} {slot : BitVec 8} {r : Option Word × LapicEff}
    (hr : l.x2apicRead cfg now slot = .ok r) : r.2.1 = l ∨ ∃ q, l.mmioRead cfg now slot = .ok q ∧ r.2 = q.2 := by
  unfold Lapic.x2apicRead at hr
  dsimp only at hr
  split at hr
  · obtain rfl := Except.ok.inj hr; exact .inl rfl
  · cases hreg : apicReg slot <;> rw [hreg] at hr
    case id | ldr | icrLo | apr | eoi | dfr | icrHi | selfIpi | extFeature | extControl | seoi | ier | undefined =>
      obtain rfl := Except.ok.inj hr; exact .inl rfl
    all_goals
      dsimp only at hr
      split at hr
      · rename_i q hq
        obtain rfl := Except.ok.inj hr; exact .inr ⟨q, hq, rfl⟩
      · cases hr

theorem Lapic.lvtEntry_set (l : Lapic) {i : Nat} (hi : i < 7) (value : BitVec 32) (j : Nat) :
    Lapic.lvtEntry { l with lvt := l.lvt.set i value } j = if i = j % 7 then value else l.lvtEntry j := by
  simp [Lapic.lvtEntry, Vector.getElem_set]

theorem and_not_and_self (value mask : BitVec 32) : value &&& mask &&& ~~~ mask = 0#32 := by
  simp [BitVec.and_assoc]

/-- R43: an identifier outside X2APIC mode has at most 8 bits. -/
theorem idMask8_and_not (cfg : Config) : idMask8 cfg &&& ~~~ 0xFF#32 = 0#32 := by
  unfold idMask8
  split
  · decide
  · decide

/-- R72, R462: the values of a reset, with any identifier, under a disarmed handle, in a mode that is supported, with a logical
identifier for the mode. -/
theorem Lapic.reset_inv (cfg : Config) (id ldr : BitVec 32) (mode : ApicMode) (handle : TimerHandle)
    (harmed : handle.armed = false) (hldr : mode ≠ .x2apic → ldr &&& ~~~ 0xFF#32 = 0#32)
    (hmode : mode = .x2apic → cfg.x2apicSupported = true) :
    Lapic.Inv cfg { Lapic.reset id with timerHandle := handle, mode := mode, ldr := ldr } := by
  have hreset : Lapic.Inv Config.default (Lapic.reset 0#32) := by decide
  obtain ⟨hbitmap, hsignal, ⟨hfactor, hconf, -⟩, hfield, -⟩ := hreset
  exact ⟨hbitmap, hsignal, ⟨hfactor, hconf, harmed⟩, hfield, fun hne => ⟨hldr hne, BitVec.zero_and⟩, hmode⟩

namespace Lapic.Inv
variable {cfg : Config} {l : Lapic}

/-! Writes of the registers. -/

/-- R57 to R59: an LVT entry written with its writable bits. -/
theorem setLvt (h : l.Inv cfg) {i : Nat} (hi : i < 7) {value : BitVec 32}
    (hvalue : value &&& ~~~ (if i = 0 then 0x000700FF#32 else lvtMask i) = 0#32) :
    Lapic.Inv cfg { l with lvt := l.lvt.set i value } := by
  obtain ⟨hbitmap, hsignal, htimer, ⟨htimerLvt, hlvt, hrest⟩, hmode⟩ := h
  refine ⟨hbitmap, hsignal, htimer, ⟨?_, fun j hj => ?_, hrest⟩, hmode⟩
  · rw [Lapic.lvtEntry_set l hi]
    split
    · rename_i hi0
      rwa [if_pos hi0] at hvalue
    · exact htimerLvt
  · rw [Lapic.lvtEntry_set l hi, Nat.mod_eq_of_lt j.isLt]
    split
    · rename_i hij
      rwa [hij, if_neg hj] at hvalue
    · exact hlvt j hj

theorem writeLvt (h : l.Inv cfg) {i : Nat} (hi : 1 ≤ i ∧ i < 7) (value : BitVec 32) : (l.writeLvt i value).Inv cfg := by
  obtain ⟨hpos, hlt⟩ := hi
  have hmod : i % 7 = i := Nat.mod_eq_of_lt hlt
  refine h.setLvt (Nat.mod_lt i (by decide)) ?_
  rw [hmod, if_neg (by omega)]
  exact and_not_and_self _ _

theorem writeLvtTimer (h : l.Inv cfg) (value : BitVec 32) : (l.writeLvtTimer cfg value).Inv cfg := by
  unfold Lapic.writeLvtTimer
  dsimp only
  refine setLvt (iteInduction (motive := Lapic.Inv cfg) (fun _ => h) fun _ => ?_) (by decide) (and_not_and_self _ _)
  exact h.stopTimer.retimed _ _ _ _ _ h.stopTimer.armed_eq

theorem writeSvr (h : l.Inv cfg) (value : BitVec 32) : (l.writeSvr cfg value).Inv cfg := h

theorem writeEsr (h : l.Inv cfg) : l.writeEsr.Inv cfg := by
  obtain ⟨hbitmap, hsignal, htimer, ⟨htimerLvt, hlvt, hicr, hext, herror⟩, hmode⟩ := h
  refine ⟨hbitmap, hsignal, htimer, ⟨htimerLvt, hlvt, hicr, hext, ?_⟩, hmode⟩
  rw [BitVec.and_or_distrib_right, BitVec.or_eq_zero_iff] at herror
  simpa [Lapic.writeEsr] using herror.2

/-- R55, R425: a write of ICR_LO clears bit 12. -/
theorem setIcrLo (h : l.Inv cfg) (value : BitVec 32) :
    Lapic.Inv cfg { l with icrLo := value &&& ~~~ 0x00001000#32 } := by
  obtain ⟨hbitmap, hsignal, htimer, ⟨htimerLvt, hlvt, -, hrest⟩, hmode⟩ := h
  exact ⟨hbitmap, hsignal, htimer, ⟨htimerLvt, hlvt, by simp, hrest⟩, hmode⟩

theorem setXapicExt (h : l.Inv cfg) (value : BitVec 32) : Lapic.Inv cfg { l with xapicExt := value &&& 0x3#32 } := by
  obtain ⟨hbitmap, hsignal, htimer, ⟨htimerLvt, hlvt, hicr, -, herror⟩, hmode⟩ := h
  exact ⟨hbitmap, hsignal, htimer, ⟨htimerLvt, hlvt, hicr, and_not_and_self _ _, herror⟩, hmode⟩

/-- R49: the window writes the logical identifier under the mask of the identifiers. -/
theorem setLdr (h : l.Inv cfg) (value : BitVec 32) : Lapic.Inv cfg { l with ldr := value &&& idMask8 cfg } := by
  obtain ⟨hbitmap, hsignal, htimer, hfield, hids, hsupported⟩ := h
  refine ⟨hbitmap, hsignal, htimer, hfield, fun hmode => ⟨?_, (hids hmode).2⟩, hsupported⟩
  rw [BitVec.and_assoc, idMask8_and_not, BitVec.and_zero]

theorem setIcrHi (h : l.Inv cfg) (value : BitVec 32) : Lapic.Inv cfg { l with icrHi := value &&& 0xFF000000#32 } := by
  obtain ⟨hbitmap, hsignal, htimer, hfield, hids, hsupported⟩ := h
  refine ⟨hbitmap, hsignal, htimer, hfield, fun hmode => ⟨(hids hmode).1, ?_⟩, hsupported⟩
  rw [BitVec.and_assoc, show 0xFF000000#32 &&& 0x00FFFFFF#32 = 0#32 by decide, BitVec.and_zero]

/-- R432: in X2APIC mode the identifiers and the destination have all their bits. -/
theorem setIds (h : l.Inv cfg) (hmode : l.mode = .x2apic) (id ldr icrHi : BitVec 32) :
    Lapic.Inv cfg { l with apicId := id, ldr := ldr, icrHi := icrHi } := by
  obtain ⟨hbitmap, hsignal, htimer, hfield, -, hsupported⟩ := h
  exact ⟨hbitmap, hsignal, htimer, hfield, fun hne => absurd hmode hne, hsupported⟩

/-! Reads of the registers. -/

theorem mmioRead (h : l.Inv cfg) {now : Word} {slot : BitVec 8} {r : BitVec 32 × LapicEff}
    (hr : l.mmioRead cfg now slot = .ok r) : r.2.1.Inv cfg := by
  obtain hr | hr | hr := Lapic.mmioRead_cases hr
  · exact hr ▸ h
  · exact hr ▸ h.illegalAddress
  · exact h.currentCount hr

theorem x2apicRead (h : l.Inv cfg) {now : Word} {slot : BitVec 8} {r : Option Word × LapicEff}
    (hr : l.x2apicRead cfg now slot = .ok r) : r.2.1.Inv cfg := by
  obtain hr | ⟨q, hq, hr⟩ := Lapic.x2apicRead_cases hr
  · exact hr ▸ h
  · exact hr ▸ h.mmioRead hq

/-! Modes and resets. -/

/-- R72: the LAPIC after construction. -/
theorem reset (cfg : Config) (id : BitVec 32) : (Lapic.reset id).Inv cfg :=
  Lapic.reset_inv cfg id 0#32 .xapic ⟨false, 0#64⟩ rfl (fun _ => BitVec.zero_and) nofun

/-- R462: a reset leaves the handle of a stopped timer. -/
theorem armed_of_reset (h : l.Inv cfg) :
    (if l.timerActive then l.deactivateTimer.timerHandle else l.timerHandle).armed = false := by
  have := h.armed_eq
  split
  · rfl
  · simp_all

theorem doReset (h : l.Inv cfg) (kind : ResetKind) (id0 : BitVec 32) : (l.doReset kind id0).1.Inv cfg := by
  obtain ⟨-, -, -, -, -, hsupported⟩ := id h
  cases kind
  case hardware => exact Lapic.reset_inv cfg id0 0#32 .xapic _ h.armed_of_reset (fun _ => rfl) nofun
  all_goals
    refine Lapic.reset_inv cfg l.apicId _ l.mode _ h.armed_of_reset (fun hmode => ?_) hsupported
    rw [if_neg hmode]; decide

/-- R436: outside X2APIC mode a LAPIC takes any other mode but that with its registers as they are. -/
theorem withMode (h : l.Inv cfg) (hoff : l.mode ≠ .x2apic) {m : ApicMode} (hm : m ≠ .x2apic) :
    Lapic.Inv cfg { l with mode := m } := by
  obtain ⟨hbitmap, hsignal, htimer, hfield, hids, -⟩ := h
  exact ⟨hbitmap, hsignal, htimer, hfield, fun _ => hids hoff, fun hx2 => absurd hx2 hm⟩

theorem enterX2apic (h : l.Inv cfg) (hsupported : cfg.x2apicSupported = true) (ldr : BitVec 32) :
    Lapic.Inv cfg { l with mode := .x2apic, ldr := ldr } := by
  obtain ⟨hbitmap, hsignal, htimer, hfield, -⟩ := h
  exact ⟨hbitmap, hsignal, htimer, hfield, fun hne => absurd rfl hne, fun _ => hsupported⟩

/-- R436: X2APIC mode is entered from XAPIC mode, where it is supported; a LAPIC that goes off is reset. -/
theorem setMode (h : l.Inv cfg) (m : ApicMode) : (l.setMode cfg m).2.1.Inv cfg := by
  unfold Lapic.setMode
  split
  · exact h
  · rename_i hne
    split
    · split
      · rename_i hsupported
        exact h.enterX2apic hsupported _
      · exact h
    · exact h
    · exact h
    · exact h
    · rename_i hmode hm
      exact h.withMode (by rw [hmode]; decide) hm
    · rename_i hmode hm
      exact h.withMode (by rw [hmode]; decide) hm
    · refine Lapic.reset_inv cfg l.apicId 0#32 _ _ h.armed_of_reset (fun _ => BitVec.zero_and) fun hm => ?_
      cases hmode : l.mode <;> simp_all

end Lapic.Inv

end Sys2Proof.Machine
end

section
/-! Every step keeps the invariants of the machine (spec/10_state.md R17, R30, R62): the bus, the window, the calls of a
controller and the time facility keep those of every LAPIC, the handlers those of the registers and of memory. -/

namespace Sys2Proof.Machine

/-- The invariants, CPU by CPU around the focus. -/
theorem State.inv_iff (s : State) :
    s.Inv ↔ Memory.wf s.mem ∧ (∀ c ∈ s.below, c.Inv s.cfg) ∧ s.cpu.Inv s.cfg ∧ ∀ c ∈ s.above, c.Inv s.cfg := by
  simp only [State.Inv, State.cpus, List.forall_mem_append, List.forall_mem_cons]

/-- An operation on one LAPIC replaces that LAPIC in the list of CPUs. -/
theorem cpus_onLapic (s : State) (i : Nat) (f : Lapic → LapicEff) :
    (s.onLapic i f).cpus = s.cpus.modify i fun c => c.setLapic (f c.lapic).1 := by
  unfold State.onLapic State.lapicAt
  cases hc : s.cpus[i]? with
  | none => exact (List.modify_eq_self (List.getElem?_eq_none_iff.1 hc)).symm
  | some c =>
    change (s.setLapicAt i (f c.lapic).1).cpus = _
    rw [cpus_setLapicAt]
    refine List.ext_getElem? fun j => ?_
    rw [List.getElem?_modify, List.getElem?_modify]
    by_cases hij : i = j
    · subst hij; simp [hc]
    · simp [hij]

namespace State.Inv
variable {s : State}

theorem mem (h : s.Inv) : Memory.wf s.mem := by
  obtain ⟨hmem, -⟩ := h
  exact hmem

theorem cpu (h : s.Inv) : s.cpu.Inv s.cfg := by
  obtain ⟨-, -, hcpu, -⟩ := s.inv_iff.1 h
  exact hcpu

theorem lapic (h : s.Inv) : s.cpu.lapic.Inv s.cfg := by
  obtain ⟨-, hlapic⟩ := h.cpu
  exact hlapic

/-- The CPU in focus may be changed to any that meets its invariants, and memory to any in canonical form. -/
theorem update {t : State} (h : s.Inv) (hcfg : t.cfg = s.cfg) (hbelow : t.below = s.below) (habove : t.above = s.above)
    (hmem : Memory.wf t.mem) (hcpu : t.cpu.Inv s.cfg) : t.Inv := by
  obtain ⟨-, hbelow', -, habove'⟩ := s.inv_iff.1 h
  exact t.inv_iff.2 ⟨hmem, by rwa [hbelow, hcfg], by rwa [hcfg], by rwa [habove, hcfg]⟩

/-- An operation on the LAPIC in focus. -/
theorem putLapic (h : s.Inv) {r : LapicEff} (hr : r.1.Inv s.cfg) : (s.putLapic r).Inv := by
  obtain ⟨hee, -⟩ := h.cpu
  exact h.update rfl rfl rfl h.mem ⟨hee, hr⟩

/-- An operation on any LAPIC. -/
theorem onLapic (h : s.Inv) (i : Nat) {f : Lapic → LapicEff} (hf : ∀ l : Lapic, l.Inv s.cfg → (f l).1.Inv s.cfg) :
    (s.onLapic i f).Inv := by
  obtain ⟨hmem, hcpus⟩ := h
  have hkeep := LapicOnly.onLapic s i f
  refine ⟨hkeep.mem ▸ hmem, fun c hc => ?_⟩
  obtain ⟨j, hj⟩ := List.mem_iff_getElem?.1 hc
  rw [cpus_onLapic, List.getElem?_modify] at hj
  obtain ⟨b, hb, rfl⟩ := Option.map_eq_some_iff.1 hj
  obtain ⟨hee, hlapic⟩ := hcpus b (List.mem_of_getElem? hb)
  rw [hkeep.cfg]
  split
  · exact ⟨hee, hf _ hlapic⟩
  · exact ⟨hee, hlapic⟩

/-! The bus (R375 to R383). -/

theorem deliver (h : s.Inv) (dm : BitVec 3) (vec : BitVec 8) (trig : Trigger) (i : Nat) : (s.deliver dm vec trig i).Inv :=
  h.onLapic i fun _ hl => hl.deliver dm vec trig

theorem deliverAll (h : s.Inv) (dm : BitVec 3) (vec : BitVec 8) (trig : Trigger) (is : List Nat) :
    (s.deliverAll dm vec trig is).Inv := by
  unfold State.deliverAll
  induction is generalizing s with
  | nil => exact h
  | cons i is ih => exact ih (h.deliver dm vec trig i)

theorem deliverLowest (h : s.Inv) (is : List Nat) (vec : BitVec 8) (trig : Trigger) :
    (s.deliverLowest is vec trig).2.Inv := by
  unfold State.deliverLowest
  split
  · exact h
  · exact h.deliver _ _ _ _

theorem busBroadcast (h : s.Inv) (dm : BitVec 3) (trig : Trigger) (vec : BitVec 8) (exclude : Option Nat) :
    (s.busBroadcast dm trig vec exclude).2.Inv := by
  unfold State.busBroadcast
  dsimp only
  split
  · exact h.deliverLowest _ _ _
  · exact h.deliverAll _ _ _ _

theorem deliverPhysical (h : s.Inv) (x2 : Bool) (dest : BitVec 32) (dm : BitVec 3) (trig : Trigger) (vec : BitVec 8) :
    (s.deliverPhysical x2 dest dm trig vec).2.Inv := by
  unfold State.deliverPhysical
  split
  · exact h.busBroadcast _ _ _ _
  · split
    · exact h
    · exact h.deliver _ _ _ _

theorem deliverLogical (h : s.Inv) (dest : BitVec 32) (dm : BitVec 3) (trig : Trigger) (vec : BitVec 8) :
    (s.deliverLogical dest dm trig vec).2.Inv := by
  unfold State.deliverLogical
  split
  · exact h
  · exact h.deliverAll _ _ _ _

theorem busDeliver (h : s.Inv) (x2 : Bool) (dest : BitVec 32) (dm : BitVec 3) (logical : Bool) (trig : Trigger)
    (vec : BitVec 8) : (s.busDeliver x2 dest dm logical trig vec).2.Inv := by
  unfold State.busDeliver
  split
  · split
    · exact h.deliverLowest _ _ _
    · exact h
  · split
    · exact h.deliverLogical _ _ _ _
    · exact h.deliverPhysical _ _ _ _ _

theorem route (h : s.Inv) (dest lo : BitVec 32) : (s.route dest lo).2.Inv := by
  unfold State.route
  dsimp only
  split
  · exact h.busDeliver _ _ _ _ _ _
  · exact h.putLapic (h.lapic.triggerIrq _ _ _)
  · exact h.busBroadcast _ _ _ _
  · exact h.busBroadcast _ _ _ _

theorem sendIpi (h : s.Inv) (dest lo : BitVec 32) : (s.sendIpi dest lo).Inv := by
  have hroute := h.route dest lo
  unfold State.sendIpi
  dsimp only
  split
  · exact h
  · split
    · exact hroute
    · exact hroute.putLapic (hroute.lapic.recordError (by decide))

/-! The registers of the LAPIC in focus, in both views (R421, R432). -/

theorem putChecked {t : State} (h : s.Inv) {r : Except Invariant LapicEff} (ht : s.putChecked r = .ok t)
    (hr : ∀ {e}, r = .ok e → e.1.Inv s.cfg) : t.Inv := by
  cases r with
  | ok e => cases ht; exact h.putLapic (hr rfl)
  | error i => cases ht

theorem putQuiet {t : State} (h : s.Inv) {l : Lapic} (ht : s.putQuiet l = .ok t) (hl : l.Inv s.cfg) : t.Inv := by
  cases ht; exact h.putLapic hl

/-- R425: a write of ICR_LO stores the command, and sends it. -/
theorem writeIcrLo (h : s.Inv) (value : BitVec 32) : (s.writeIcrLo value).Inv := by
  refine sendIpi ?_ _ _
  exact h.putLapic (h.lapic.setIcrLo value)

/-- R432: so does a write of the whole ICR, in X2APIC mode. -/
theorem writeIcr (h : s.Inv) (hmode : s.cpu.lapic.mode = .x2apic) (hi lo : BitVec 32) : (s.writeIcr hi lo).Inv := by
  refine sendIpi ?_ _ _
  exact h.putLapic ((h.lapic.setIcrLo lo).setIds hmode _ _ hi)

theorem mmioWrite {t : State} (h : s.Inv) {slot : BitVec 8} {value : BitVec 32} (ht : s.mmioWrite slot value = .ok t) :
    t.Inv := by
  have hl := h.lapic
  have hillegal : (s.putLapic s.cpu.lapic.illegalAddress.2).Inv := h.putLapic hl.illegalAddress
  unfold State.mmioWrite at ht
  cases hreg : apicReg slot <;> rw [hreg] at ht <;> dsimp only at ht
  case tpr => cases ht; exact h.putLapic (hl.setTpr _)
  case eoi => exact h.putChecked ht hl.receiveEoi
  case ldr => exact h.putQuiet ht (hl.setLdr _)
  case dfr => exact h.putQuiet ht hl
  case svr => exact h.putQuiet ht (hl.writeSvr _)
  case esr => exact h.putQuiet ht hl.writeEsr
  case lvt i => exact h.putQuiet ht (hl.writeLvt (apicReg_eq_lvt hreg) _)
  case lvtTimer => exact h.putQuiet ht (hl.writeLvtTimer _)
  case icrLo => cases ht; exact h.writeIcrLo _
  case icrHi => exact h.putQuiet ht (hl.setIcrHi _)
  case timerInitial => exact h.putQuiet ht (hl.setInitialCount _ _)
  case timerDivide => exact h.putQuiet ht (hl.setDivide _)
  case selfIpi | undefined => cases ht; exact hillegal
  case extFeature =>
    split at ht <;> cases ht
    · exact h
    · exact hillegal
  case extControl =>
    split at ht
    · exact h.putQuiet ht (hl.setXapicExt _)
    · cases ht; exact hillegal
  case seoi =>
    split at ht
    · split at ht <;> cases ht
      · exact h.putLapic (hl.receiveSeoi _)
      · exact h
    · cases ht; exact hillegal
  case ier =>
    split at ht
    · split at ht
      · exact h.putQuiet ht hl
      · cases ht; exact h
    · cases ht; exact hillegal
  all_goals cases ht; exact h

theorem msrDone {e : Except Invariant State} {r : Bool × State} (hr : msrDone e = .ok r) (he : ∀ {t}, e = .ok t → t.Inv) :
    r.2.Inv := by
  cases e with
  | ok t => cases hr; exact he rfl
  | error i => cases hr

theorem x2apicWrite (h : s.Inv) {slot : BitVec 8} {hi lo : BitVec 32} {r : Bool × State}
    (hr : s.x2apicWrite slot hi lo = .ok r) : r.2.Inv := by
  have hl := h.lapic
  unfold State.x2apicWrite at hr
  dsimp only at hr
  split at hr
  · cases hr; exact h
  · rename_i hguard
    have hmode : s.cpu.lapic.mode = .x2apic := not_not.1 fun hne => hguard (.inl hne)
    cases hreg : apicReg slot <;> rw [hreg] at hr <;> dsimp only at hr
    case id => exact msrDone hr fun ht => h.putQuiet ht (hl.setIds hmode _ _ _)
    case ldr => exact msrDone hr fun ht => h.putQuiet ht (hl.setIds hmode _ _ _)
    case tpr => cases hr; exact h.putLapic (hl.setTpr _)
    case eoi => exact msrDone hr fun ht => h.putChecked ht hl.receiveEoi
    case svr => exact msrDone hr fun ht => h.putQuiet ht (hl.writeSvr _)
    case esr => exact msrDone hr fun ht => h.putQuiet ht hl.writeEsr
    case icrLo => cases hr; exact h.writeIcr hmode _ _
    case selfIpi => cases hr; exact h.putLapic (hl.triggerIrq _ _ _)
    case lvt i => exact msrDone hr fun ht => h.putQuiet ht (hl.writeLvt (apicReg_eq_lvt hreg) _)
    case lvtTimer => exact msrDone hr fun ht => h.putQuiet ht (hl.writeLvtTimer _)
    case timerInitial => exact msrDone hr fun ht => h.putQuiet ht (hl.setInitialCount _ _)
    case timerDivide => exact msrDone hr fun ht => h.putQuiet ht (hl.setDivide _)
    all_goals cases hr; exact h

end State.Inv

/-! The handlers. -/

theorem writeFlags_ee_inv {s : State} (h : s.cpu.ee.Inv) (u : FlagUpdate) : (s.writeFlags u).cpu.ee.Inv :=
  (writeFlags_held s u).trans h

/-- R17, R62: the machine's invariants are closed under what the handlers are made of. -/
theorem inv_handlerInvariant : HandlerInvariant State.Inv where
  setGpr _ _ h := h.update rfl rfl rfl h.mem h.cpu
  setVreg _ _ h := h.update rfl rfl rfl h.mem h.cpu
  setKreg _ _ h := h.update rfl rfl rfl h.mem h.cpu
  writeFlags {s} u h := by
    obtain ⟨-, -, -, -, hmem, houtside⟩ := writeFlags_else s u
    obtain ⟨hee, hlapic⟩ := h.cpu
    exact h.update houtside.cfg houtside.below houtside.above (hmem ▸ h.mem)
      ⟨writeFlags_ee_inv hee u, houtside.lapic ▸ hlapic⟩
  advance _ h := h.update rfl rfl rfl h.mem h.cpu
  raise _ h := h
  store a v n h := h.update rfl rfl rfl (Memory.wf_writeBytes h.mem a v n) h.cpu
  mmioRead h hr := h.putLapic (h.lapic.mmioRead hr)
  mmioWrite h ht := h.mmioWrite ht

/-! Resets (R71, R72, R461). -/

theorem Ee.reset_inv (cfg : Config) : (Ee.reset cfg).Inv := by
  change (0x2#64 &&& ~~~ conditionFlags) = 0x2#64
  decide

theorem Cpu.reset_inv (cfg : Config) (c : Nat) : (Cpu.reset cfg c).Inv cfg :=
  ⟨Ee.reset_inv cfg, Lapic.Inv.reset cfg _⟩

theorem Cpu.Inv.hardwareReset {cfg : Config} {c : Cpu} (h : c.Inv cfg) : (c.hardwareReset cfg).Inv cfg := by
  obtain ⟨-, hlapic⟩ := h
  exact ⟨Ee.reset_inv cfg, hlapic.doReset .hardware c.apicId0⟩

/-- The machine after reset, with any parameters and any number of CPUs. -/
theorem resetWith_inv (cfg : Config) (n : Nat) : (State.resetWith cfg n).Inv := by
  refine (State.inv_iff _).2 ⟨Memory.wf_nil, List.forall_mem_nil _, Cpu.reset_inv cfg 0, fun c hc => ?_⟩
  obtain ⟨i, -, rfl⟩ := List.mem_map.1 hc
  exact Cpu.reset_inv cfg (i + 1)

/-- Settles O56: the reset state has the parameters of R5 and two CPUs. -/
theorem resetMeetsTheInvariants : Obligations.ResetMeetsTheInvariants :=
  resetWith_inv Config.default 1

namespace State.Inv
variable {s : State}

theorem hardwareReset (h : s.Inv) : s.hardwareReset.Inv := by
  obtain ⟨hmem, hbelow, hcpu, habove⟩ := s.inv_iff.1 h
  refine (State.inv_iff _).2 ⟨hmem, fun c hc => ?_, hcpu.hardwareReset, fun c hc => ?_⟩
  · obtain ⟨b, hb, rfl⟩ := List.mem_map.1 hc
    exact (hbelow b hb).hardwareReset
  · obtain ⟨a, ha, rfl⟩ := List.mem_map.1 hc
    exact (habove a ha).hardwareReset

theorem softwareReset (h : s.Inv) : s.softwareReset.Inv :=
  putLapic (s := { s with cpu := { s.cpu with ee := Ee.reset s.cfg } })
    (h.update rfl rfl rfl h.mem ⟨Ee.reset_inv s.cfg, h.lapic⟩) (h.lapic.doReset .software _)

/-! The schedule. -/

/-- Moving the focus changes no CPU. -/
theorem focusOn {u : State} {c : Nat} (h : s.Inv) (hu : s.focusOn c = some u) : u.Inv := by
  obtain ⟨hcpus, -⟩ := focusOn_eq_some hu
  have hrest : u.mem = s.mem ∧ u.cfg = s.cfg := by
    unfold State.focusOn at hu
    split at hu <;> cases hu
    exact ⟨rfl, rfl⟩
  obtain ⟨hmem, hcfg⟩ := hrest
  rw [State.Inv, hcpus, hmem, hcfg]
  exact h

theorem onCpu {t : State} {c : Nat} {f : State → StepOutcome} (h : s.Inv) (ht : s.onCpu c f = .next t)
    (hf : ∀ {u}, u.Inv → f u = .next t → t.Inv) : t.Inv := by
  unfold State.onCpu at ht
  split at ht
  · rename_i u hu
    exact hf (h.focusOn hu) ht
  · cases ht

theorem runAcknowledge {t : State} (h : s.Inv) (ht : runAcknowledge s = .next t) : t.Inv := by
  unfold Machine.runAcknowledge at ht
  split at ht
  · rename_i r hr
    cases ht; exact h.putLapic (h.lapic.acknowledgeInt hr)
  · cases ht

theorem runMsrRead {t : State} {index : BitVec 8} (h : s.Inv) (ht : runMsrRead index s = .next t) : t.Inv := by
  unfold Machine.runMsrRead at ht
  split at ht
  · rename_i r hr
    cases ht; exact h.putLapic (h.lapic.x2apicRead hr)
  · cases ht

theorem runMsrWrite {t : State} {index : BitVec 8} {hi lo : BitVec 32} (h : s.Inv)
    (ht : runMsrWrite index hi lo s = .next t) : t.Inv := by
  unfold Machine.runMsrWrite at ht
  split at ht
  · rename_i r hr
    cases ht; exact h.x2apicWrite hr
  · cases ht

/-- R70, R406: the callback of a timer, which the facility has disarmed. -/
theorem callback (h : s.Inv) (i : Nat) : (s.callback i).Inv :=
  h.onLapic i fun _ hl => hl.periodic_deactivateTimer s.now

theorem runPeriodic {t : State} (h : s.Inv) (ht : runPeriodic s = .next t) : t.Inv := by
  cases ht
  split
  · exact h.callback _
  · exact h

theorem advanceTime (h : s.Inv) (ticks : Word) : (s.advanceTime ticks).Inv := by
  obtain ⟨ht, -⟩ | ⟨i, l, -, -, -, -, ht⟩ := advanceTime_cases s ticks
  · rw [ht]; exact h
  · rw [ht]; exact callback (s := { s with now := l.timerHandle.expiry }) h i

theorem runInput {t : State} {i : Input} (h : s.Inv) (ht : runInput i s = .next t) : t.Inv := by
  cases i with
  | descriptor c w => exact h.onCpu ht inv_handlerInvariant.runWord
  | acknowledgeInt c => exact h.onCpu ht runAcknowledge
  | readX2apic c index => exact h.onCpu ht runMsrRead
  | writeX2apic c index hi lo => exact h.onCpu ht runMsrWrite
  | setMode c m => exact h.onCpu ht fun hu ht => by cases ht; exact hu.putLapic (hu.lapic.setMode m)
  | setTscDeadline c deadline => exact h.onCpu ht fun hu ht => by cases ht; exact hu.putLapic (hu.lapic.setDeadline _ _)
  | getTscDeadline c => exact h.onCpu ht fun hu ht => by cases ht; exact hu
  | init c => exact h.onCpu ht fun hu ht => by cases ht; exact hu.putLapic (hu.lapic.doReset .init _)
  | softwareReset c => exact h.onCpu ht fun hu ht => by cases ht; exact hu.softwareReset
  | hardwareReset => cases ht; exact h.hardwareReset
  | busMessage dest dm logical trig vec => cases ht; exact h.busDeliver _ _ _ _ _ _
  | triggerIrq c vec trig => exact h.onCpu ht fun hu ht => by cases ht; exact hu.putLapic (hu.lapic.triggerIrq _ _ _)
  | advanceTime ticks => cases ht; exact h.advanceTime ticks
  | periodic c => exact h.onCpu ht runPeriodic
  | memWrite a b => cases ht; exact h.update rfl rfl rfl (Memory.wf_write h.mem a.isLt b) h.cpu
  | memFaults rs => cases ht; exact h

end State.Inv

/-- Settles O57: each element of the schedule keeps the invariants of memory and of every CPU. -/
theorem everyStepKeepsTheInvariants : Obligations.EveryStepKeepsTheInvariants := by
  intro s t h hstep
  unfold step at hstep
  split at hstep
  · cases hstep; exact h
  · rename_i i rest _
    exact State.Inv.runInput (s := { s with inputs := rest }) h hstep

end Sys2Proof.Machine
end

section
/-! Reads and writes of a general register by width (spec/10_state.md R11, R12). -/

namespace Sys2Proof.Machine

theorem gpr_setX_same (s : State) {w : Nat} (r : BitVec 5) (v : BitVec w) :
    (s.setX r v).gpr r.toNat = mergeGpr w (s.gpr r.toNat) v := by
  rw [State.setX, State.gpr_setGpr, if_pos rfl]

/-- Two of the sixteen registers are different cells. -/
theorem gpr_setX_of_ne (s : State) {w : Nat} {r q : BitVec 5} (hr : r.toNat < 16) (hq : q.toNat < 16) (hne : q ≠ r)
    (v : BitVec w) : (s.setX r v).gpr q.toNat = s.gpr q.toNat := by
  have hcells : r.toNat % 16 ≠ q.toNat % 16 := by
    rw [Nat.mod_eq_of_lt hr, Nat.mod_eq_of_lt hq]
    exact fun h => hne (BitVec.eq_of_toNat_eq h.symm)
  rw [State.setX, State.gpr_setGpr, if_neg hcells]

theorem getLsbD_x (s : State) {w j : Nat} (hj : j < w) (r : BitVec 5) :
    (s.x w r).getLsbD j = (s.gpr r.toNat).getLsbD j := by
  simp [State.x, hj]

theorem mergeGpr_64 (old v : Word) : mergeGpr 64 old v = v := by
  simp [mergeGpr]

theorem mergeGpr_32 (old : Word) (v : BitVec 32) : mergeGpr 32 old v = 0#32 ++ v := by
  rw [mergeGpr, if_neg (by decide)]
  refine BitVec.eq_of_getLsbD_eq fun j hj => ?_
  rw [BitVec.getLsbD_append, BitVec.getLsbD_setWidth]
  split
  · simp [hj]
  · rename_i hhigh
    rw [BitVec.getLsbD_of_ge v j (not_lt.1 hhigh), BitVec.getLsbD_zero, Bool.and_false]

theorem mergeGpr_16 (old : Word) (v : BitVec 16) : mergeGpr 16 old v = old.extractLsb' 16 48 ++ v := by
  have hmask {j : Nat} (hj : j < 64) : (0xFFFFFFFFFFFF0000#64).getLsbD j = decide (16 ≤ j) := by revert j; decide
  rw [mergeGpr, if_pos rfl]
  refine BitVec.eq_of_getLsbD_eq fun j hj => ?_
  rw [BitVec.getLsbD_append, BitVec.getLsbD_or, BitVec.getLsbD_and, hmask hj, BitVec.getLsbD_setWidth]
  split
  · rename_i hlow
    simp [hj, not_le.2 hlow]
  · rename_i hhigh
    have hhigh : 16 ≤ j := not_lt.1 hhigh
    simp [hhigh, Nat.add_sub_cancel' hhigh]
    omega

/-- Settles O8: a write at a width merges with the register it names, which is no other register. -/
theorem subregisterReadsAndWrites : Obligations.SubregisterReadsAndWrites := by
  intro s r q hr hq hne
  refine ⟨fun w _ j hj => getLsbD_x s hj r, fun v => ⟨?_, gpr_setX_of_ne s hr hq hne v⟩,
    fun v => ⟨?_, gpr_setX_of_ne s hr hq hne v⟩, fun v => ⟨?_, gpr_setX_of_ne s hr hq hne v⟩⟩
  · rw [gpr_setX_same, mergeGpr_64]
  · rw [gpr_setX_same, mergeGpr_32]
  · rw [gpr_setX_same, mergeGpr_16]

end Sys2Proof.Machine
end

section
/-! The hardware reset (spec/10_state.md R71, R72, spec/70_reset_and_hazards.md R460 to R462). -/

namespace Sys2Proof.Machine

/-- A register that R71 does not make `RESET_RDX` is 0. -/
theorem Ee.reset_gpr (cfg : Config) (i : Fin 16) (hi : i.val ≠ 2) : (Ee.reset cfg).gpr[i.val] = 0#64 := by
  simp [Ee.reset, hi.symm]

theorem step_hardwareReset {s t : State} {rest : List Input} (hinputs : s.inputs = .hardwareReset :: rest)
    (hstep : step s = .next t) : t = State.hardwareReset { s with inputs := rest } := by
  rw [step_of_inputs_cons hinputs] at hstep
  cases hstep
  rfl

theorem cpus_hardwareReset (s : State) : s.hardwareReset.cpus = s.cpus.map (Cpu.hardwareReset s.cfg) := by
  simp [State.cpus, State.hardwareReset]

/-- Settles O54: the reset gives each CPU the register file of R71 and, the timer's handle apart, the LAPIC of R72. -/
theorem hardwareReset : Obligations.HardwareReset := by
  intro s t rest hinputs hstep
  obtain rfl := step_hardwareReset hinputs hstep
  refine ⟨rfl, rfl, by rw [cpus_hardwareReset, List.length_map]; rfl, fun c hc => ?_⟩
  rw [cpus_hardwareReset] at hc
  obtain ⟨b, -, rfl⟩ := List.mem_map.1 hc
  have hrdx : (Ee.reset s.cfg).gpr[2] = s.cfg.resetRdx := by simp [Ee.reset]
  have hbitmaps (i : Fin 8) (x : BitVec 32) : (Vector.replicate 8 x)[i.val] = x := Vector.getElem_replicate i.isLt
  exact ⟨Ee.reset_gpr s.cfg, hrdx, rfl, rfl, fun i => Vector.getElem_replicate i.isLt,
    fun i => Vector.getElem_replicate i.isLt, rfl, rfl, rfl,
    fun i => ⟨hbitmaps i _, hbitmaps i _, hbitmaps i _, hbitmaps i _⟩, fun i => Vector.getElem_replicate i.isLt,
    rfl, rfl, rfl, rfl, rfl, rfl, rfl, rfl, rfl, rfl, rfl, rfl, rfl, rfl, rfl, rfl, rfl⟩

end Sys2Proof.Machine
end

section
/-! The countdown of the timer (spec/60_exceptions.md R404, R405). -/

namespace Sys2Proof.Machine

/-- Outside TSC-deadline mode a write of 0 stops the timer. -/
theorem Lapic.setInitialCount_zero {l : Lapic} (hmode : l.tscMode = false) (now : Word) :
    l.setInitialCount now 0#32 = { l with
      timerInitial := 0#32
      timerCurrent := 0#32
      timerActive := false
      timerHandle := { l.timerHandle with armed := l.timerHandle.armed && !l.timerActive } } := by
  simp [Lapic.setInitialCount, hmode, Lapic.stopTimer_eq]

/-- The product of a count and the divide factor has room in 64 bits. -/
theorem setWidth_mul_setWidth (count : BitVec 32) (factor : BitVec 8) :
    count.setWidth 64 * factor.setWidth 64 = BitVec.ofNat 64 (count.toNat * factor.toNat) := by
  apply BitVec.eq_of_toNat_eq
  simp [BitVec.toNat_mul, BitVec.toNat_setWidth]

/-- Outside TSC-deadline mode a write of another count starts a countdown. -/
theorem Lapic.setInitialCount_of_ne_zero {l : Lapic} (hmode : l.tscMode = false) (now : Word) {count : BitVec 32}
    (hcount : count ≠ 0#32) :
    l.setInitialCount now count = { l with
      timerInitial := count
      timerCurrent := count
      timerActive := true
      ticksInitial := now
      timerHandle := ⟨true, now + BitVec.ofNat 64 (count.toNat * l.timerDivideFactor.toNat)⟩ } := by
  simp [Lapic.setInitialCount, hmode, hcount, Lapic.activateTimer, Lapic.countdownTicks, Lapic.stopTimer_eq,
    setWidth_mul_setWidth]

/-- R405: a stopped timer reads its stored count. -/
theorem Lapic.currentCount_of_inactive {l : Lapic} (cfg : Config) (now : Word) (hmode : l.tscMode = false)
    (hactive : l.timerActive = false) : l.currentCount cfg now = .ok (l.timerCurrent, (l, [])) := by
  simp [Lapic.currentCount, hmode, hactive]

/-- R405: an active timer whose countdown has not run out reads what is left of it. -/
theorem Lapic.currentCount_of_active {l : Lapic} (cfg : Config) {now : Word} (hmode : l.tscMode = false)
    (hactive : l.timerActive = true) {periods : Nat} (helapsed : l.elapsed now = periods)
    (hleft : periods ≤ l.timerInitial.toNat) :
    let left := l.timerInitial - BitVec.ofNat 32 periods
    l.currentCount cfg now = .ok (left, ({ l with timerCurrent := left }, [])) := by
  simp [Lapic.currentCount, hmode, hactive, helapsed, hleft]

/-- R405: the whole divide-factor periods of `delta` ticks. -/
theorem Lapic.elapsed_add {l : Lapic} {now : Word} (hticks : l.ticksInitial = now) (delta : Word) :
    l.elapsed (now + delta) = delta.toNat / l.timerDivideFactor.toNat := by
  rw [Lapic.elapsed, hticks, BitVec.add_comm, BitVec.add_sub_cancel]

/-- Settles O51: what the write leaves, and the read of that; a countdown of `count` periods has not run out within as many
periods. -/
theorem timerCountsDown : Obligations.TimerCountsDown := by
  intro cfg l now delta count hmode
  have hmode : l.tscMode = false := hmode
  constructor
  · rintro rfl
    rw [Lapic.setInitialCount_zero hmode]
    exact ⟨rfl, rfl, rfl, fun hactive => by simp [hactive], Lapic.currentCount_of_inactive cfg _ hmode rfl⟩
  · intro hcount
    rw [Lapic.setInitialCount_of_ne_zero hmode now hcount]
    refine ⟨rfl, rfl, rfl, rfl, rfl, fun hdelta => ?_⟩
    have hleft : delta.toNat / l.timerDivideFactor.toNat ≤ count.toNat := Nat.div_le_of_le_mul (by rwa [Nat.mul_comm])
    refine Lapic.currentCount_of_active cfg ?_ rfl (Lapic.elapsed_add rfl delta) hleft
    exact hmode

end Sys2Proof.Machine
end

section
/-! Accesses of ordinary memory (spec/20_memory.md R81, R82, spec/60_exceptions.md R353). -/

namespace Sys2Proof.Machine

/-! The bytes of a value read and of a value stored (R82). -/

theorem lane_readBytes (m : List Host.Cell) (a : Word) {n i : Nat} (hn : n ≤ 64) (hi : i < n) :
    lane 8 (Memory.readBytes m a n) i = Memory.read m (byteAddr a i) :=
  lane_packLanes (by decide) _ hi (by omega)

/-- A value read is 0 above its bytes. -/
theorem getLsbD_readBytes_of_ge (m : List Host.Cell) (a : Word) {n j : Nat} (hj : 8 * n ≤ j) :
    (Memory.readBytes m a n).getLsbD j = false := by
  rw [Memory.readBytes, getLsbD_packLanes (by decide), decide_eq_false (not_lt.2 hj), Bool.false_and, Bool.false_and]

/-- Memory with bytes written holds those bytes, and every other byte as before. -/
theorem storedBytes_writeBytes (s : State) (a : Word) (v : Packed) {n : Nat} (hn : n ≤ 64) :
    StoredBytes s { s with mem := Memory.writeBytes s.mem a v n } a n v := by
  refine ⟨fun i hi => Memory.read_writeBytes s.mem a v (by omega) hi, fun b hb => ?_⟩
  refine Memory.read_writeBytes_of_ne s.mem a v n b.toNat fun i hi heq => ?_
  exact hb i hi (BitVec.eq_of_toNat_eq heq.symm)

/-! What an access that goes to memory answers, as the collaborator faults it or not (R81, R353). -/

section
variable {s : State} {a : Word} {n : Nat}

theorem memRead_of_fault (ht : s.target a n = .memory) {r : MemFaultRecord}
    (hf : memFaultOf s.memFaults false a n = some r) : s.memRead a n = .raised (.memFault r) s := by
  simp only [State.memRead, ht, hf]

theorem memRead_of_memory (ht : s.target a n = .memory) (hf : memFaultOf s.memFaults false a n = none) :
    s.memRead a n = .ok (Memory.readBytes s.mem a n) s := by
  simp only [State.memRead, ht, hf]

theorem memWrite_of_fault (ht : s.target a n = .memory) {r : MemFaultRecord}
    (hf : memFaultOf s.memFaults true a n = some r) (v : Packed) : s.memWrite a n v = .raised (.memFault r) s := by
  simp only [State.memWrite, ht, hf]

theorem memWrite_of_memory (ht : s.target a n = .memory) (hf : memFaultOf s.memFaults true a n = none) (v : Packed) :
    s.memWrite a n v = .ok () { s with mem := Memory.writeBytes s.mem a v n } := by
  simp only [State.memWrite, ht, hf]

end

/-- Settles O41: the answer of each access, and the bytes it reads or leaves. -/
theorem memoryAccesses : Obligations.MemoryAccesses := by
  intro s a n v hn ht
  refine ⟨fun r hf => memRead_of_fault ht hf, fun hf => ?_, fun r hf => memWrite_of_fault ht hf v, fun hf => ?_⟩
  · exact ⟨_, memRead_of_memory ht hf, fun i hi => lane_readBytes s.mem a hn hi,
      fun j hj => getLsbD_readBytes_of_ge s.mem a hj⟩
  · exact ⟨_, memWrite_of_memory ht hf v, storedBytes_writeBytes s a v hn, rfl, fun hwf => Memory.wf_writeBytes hwf a v n⟩

end Sys2Proof.Machine
end

section
/-! Where an access goes (spec/20_memory.md R86, R90, spec/60_exceptions.md R354). -/

namespace Sys2Proof.Machine

/-- The offset of byte `i` of an access, modulo 2^64, in terms of the first byte's. -/
theorem toNat_byteOffset (a base : Word) {i : Nat} (hi : i < 64) :
    (a + BitVec.ofNat 64 i - base).toNat = ((a - base).toNat + i) % 2 ^ 64 := by
  have hoffset : a + BitVec.ofNat 64 i - base = a - base + BitVec.ofNat 64 i := by ring
  rw [hoffset, BitVec.toNat_add, BitVec.toNat_ofNat, Nat.mod_eq_of_lt (by omega : i < 2 ^ 64)]

/-- An access, being shorter than the window, has a byte in it exactly when its first or its last byte is in it. -/
theorem exists_byte_inside_iff (a base : Word) {n : Nat} (hpos : 0 < n) (hn : n ≤ 64) :
    (∃ i < n, (a + BitVec.ofNat 64 i - base).toNat < 0x1000) ↔
      (a - base).toNat < 0x1000 ∨ (a + BitVec.ofNat 64 (n - 1) - base).toNat < 0x1000 := by
  have hlt := (a - base).isLt
  constructor
  · rintro ⟨i, hi, hinside⟩
    rw [toNat_byteOffset a base (by omega)] at hinside
    rw [toNat_byteOffset a base (by omega)]
    omega
  · rintro (hfirst | hlast)
    · exact ⟨0, hpos, by rwa [BitVec.add_zero]⟩
    · exact ⟨n - 1, by omega, hlast⟩

/-- The number of the 16-byte slot at an offset of the window. -/
theorem extractLsb'_slot (off : Word) : off.extractLsb' 4 8 = BitVec.ofNat 8 (off.toNat / 16) := by
  apply BitVec.eq_of_toNat_eq
  rw [BitVec.extractLsb'_toNat, BitVec.toNat_ofNat, Nat.shiftRight_eq_div_pow]

section
variable {s : State} {a : Word} {n : Nat}

theorem target_of_not_xapic (hmode : s.cpu.lapic.mode ≠ .xapic) : s.target a n = .memory :=
  if_neg fun h => hmode h.1

theorem target_of_outside (hpos : 0 < n) (hn : n ≤ 64)
    (houtside : ∀ i < n, ¬ (a + BitVec.ofNat 64 i - s.cfg.apicBase).toNat < 0x1000) : s.target a n = .memory := by
  refine if_neg fun h => ?_
  obtain ⟨i, hi, hinside⟩ := (exists_byte_inside_iff a s.cfg.apicBase hpos hn).2 h.2
  exact houtside i hi hinside

theorem target_of_aligned (hmode : s.cpu.lapic.mode = .xapic) (hinside : (a - s.cfg.apicBase).toNat < 0x1000)
    (haligned : (a - s.cfg.apicBase).toNat % 16 = 0) :
    s.target a 4 = .window (BitVec.ofNat 8 ((a - s.cfg.apicBase).toNat / 16)) := by
  simp only [State.target, hmode, hinside, haligned, extractLsb'_slot, true_or, and_self, if_true]

theorem target_of_malformed (hpos : 0 < n) (hn : n ≤ 64) (hmode : s.cpu.lapic.mode = .xapic)
    (hinside : ∃ i < n, (a + BitVec.ofNat 64 i - s.cfg.apicBase).toNat < 0x1000)
    (hbad : ¬ (n = 4 ∧ (a - s.cfg.apicBase).toNat < 0x1000 ∧ (a - s.cfg.apicBase).toNat % 16 = 0)) :
    s.target a n = .malformed (a - s.cfg.apicBase) :=
  (if_pos ⟨hmode, (exists_byte_inside_iff a s.cfg.apicBase hpos hn).1 hinside⟩).trans (if_neg hbad)

theorem memRead_of_malformed {off : Word} (ht : s.target a n = .malformed off) :
    s.memRead a n = .raised (.malformedApicAccess off n false) s := by
  simp only [State.memRead, ht]

theorem memWrite_of_malformed {off : Word} (ht : s.target a n = .malformed off) (v : Packed) :
    s.memWrite a n v = .raised (.malformedApicAccess off n true) s := by
  simp only [State.memWrite, ht]

end

end Sys2Proof.Machine
end

section
/-! The registers of the window (spec/10_state.md R42 to R67, spec/60_exceptions.md R390, R402, R410, R421 to R429): what each gives
when read and keeps when written. -/

namespace Sys2Proof.Machine

/-! The fields of the registers. -/

/-- The low byte of the 32 bits that a register of the window receives. -/
theorem setWidth_8_of_32 (v : Packed) : (v.setWidth 32).setWidth 8 = v.setWidth 8 :=
  BitVec.setWidth_setWidth_of_le v (by decide)

/-- R50: what the DFR reads. -/
theorem destFormat_append (f : BitVec 4) : f.setWidth 32 <<< 28 ||| 0x0FFFFFFF#32 = f ++ 0x0FFFFFFF#28 := by
  revert f; decide

/-- R51: the fields of the SVR, from the top. -/
theorem Lapic.svr_eq_append (l : Lapic) :
    l.svr = 0#22 ++ BitVec.ofBool l.focusDisable ++ BitVec.ofBool l.softwareEnabled ++ l.spuriousVector := by
  unfold Lapic.svr
  generalize l.spuriousVector = vector
  cases l.softwareEnabled <;> cases l.focusDisable <;> revert vector <;> decide

/-- R51, R423: without the XAPIC parameter bits 3:0 of the spurious vector are ones. -/
theorem spuriousVector_or (v : BitVec 32) : v.setWidth 8 ||| 0x0F#8 = v.extractLsb' 4 4 ++ 0xF#4 := by
  have hlow : v.extractLsb' 4 4 = (v.setWidth 8).extractLsb' 4 4 := by
    apply BitVec.eq_of_getLsbD_eq; intro i hi; simp [hi]; omega
  rw [hlow]
  generalize v.setWidth 8 = b
  revert b; decide

theorem Lapic.writeSvr_eq (cfg : Config) (v : BitVec 32) (l : Lapic) :
    l.writeSvr cfg v = { l with
      spuriousVector := if cfg.xapic then v.setWidth 8 else v.extractLsb' 4 4 ++ 0xF#4
      softwareEnabled := v.getLsbD 8
      focusDisable := v.getLsbD 9 } := by
  rw [Lapic.writeSvr, spuriousVector_or]

/-- R62: the divide factor of a written configuration: bits 3, 1 and 0 are a code, 7 for division by 1. -/
theorem divideDecode_eq (v : BitVec 32) :
    let code := (v.toNat / 8 % 2) * 4 + v.toNat % 4
    divideDecode (v.setWidth 4 &&& 0xB#4) = BitVec.ofNat 8 (if code = 7 then 1 else 2 ^ (code + 1)) := by
  have hdecode (b : BitVec 4) : divideDecode (b &&& 0xB#4) =
      BitVec.ofNat 8 (if b.toNat / 8 % 2 * 4 + b.toNat % 4 = 7 then 1 else 2 ^ (b.toNat / 8 % 2 * 4 + b.toNat % 4 + 1)) := by
    revert b; decide
  have hlow : (v.setWidth 4).toNat = v.toNat % 16 := BitVec.toNat_setWidth 4 v
  have hbit : v.toNat % 16 / 8 % 2 = v.toNat / 8 % 2 := by omega
  have htwo : v.toNat % 16 % 4 = v.toNat % 4 := by omega
  rw [hdecode, hlow, hbit, htwo]

theorem vector_set_eq_setIfInBounds {α : Type} {n i : Nat} (xs : Vector α n) (hi : i < n) (x : α) :
    xs.set i x hi = xs.setIfInBounds i x := by
  ext j hj
  rw [Vector.getElem_set, Vector.getElem_setIfInBounds]

theorem Lapic.writeLvt_eq {i : Nat} (hi : i < 7) (v : BitVec 32) (l : Lapic) :
    l.writeLvt i v = { l with lvt := l.lvt.setIfInBounds i (v &&& lvtMask i) } := by
  simp only [Lapic.writeLvt, Nat.mod_eq_of_lt hi, vector_set_eq_setIfInBounds]

/-- R410: a change of bit 18, which is held at 0 where TSC-deadline mode is not supported, stops the timer. -/
theorem Lapic.writeLvtTimer_eq (cfg : Config) (value : BitVec 32) (l : Lapic) :
    l.writeLvtTimer cfg value =
      let v := if cfg.tscDeadlineSupported then value else value &&& 0xFFFBFFFF#32
      let m := if v.getLsbD 18 = (l.lvtEntry 0).getLsbD 18 then l else
        { l with timerActive := false, ticksInitial := 0#64,
                 timerHandle := { l.timerHandle with armed := l.timerHandle.armed && !l.timerActive } }
      { m with lvt := m.lvt.setIfInBounds 0 (v &&& 0x000700FF#32) } := by
  simp only [Lapic.writeLvtTimer, Lapic.stopTimer_eq, vector_set_eq_setIfInBounds]
  rfl

theorem Lapic.setDivide_eq (v : BitVec 32) (l : Lapic) :
    l.setDivide v =
      let code := (v.toNat / 8 % 2) * 4 + v.toNat % 4
      { l with timerDivconf := v.setWidth 4 &&& 0xB#4,
               timerDivideFactor := BitVec.ofNat 8 (if code = 7 then 1 else 2 ^ (code + 1)) } := by
  rw [Lapic.setDivide, divideDecode_eq]

/-! Accesses that reach a slot of the window (R90). -/

/-- The register at `a` gives `value` when read, changing nothing, and a write of `v` to it leaves the LAPIC `keep v`, with no
call on a collaborator and nothing else changed. -/
def WindowRegister (s : State) (a : Word) (value : BitVec 32) (keep : BitVec 32 → Lapic) : Prop :=
  s.memRead a 4 = .ok (value.setWidth 512) s ∧
    ∀ v : Packed, s.memWrite a 4 v = .ok () (s.putLapic (keep (v.setWidth 32), []))

/-- To put the LAPIC back as it is changes nothing. -/
theorem State.putLapic_self (s : State) : s.putLapic (s.cpu.lapic, []) = s := by
  simp [State.putLapic, Cpu.setLapic]

section
variable {s : State} {a : Word} {slot : BitVec 8} (ht : s.target a 4 = .window slot)
include ht

theorem memRead_of_window {r : BitVec 32 × LapicEff} (hr : s.cpu.lapic.mmioRead s.cfg s.now slot = .ok r) :
    s.memRead a 4 = .ok (r.1.setWidth 512) (s.putLapic r.2) := by
  simp only [State.memRead, ht, hr]

theorem memRead_of_window_stopped {i : Invariant} (hr : s.cpu.lapic.mmioRead s.cfg s.now slot = .error i) :
    s.memRead a 4 = .stopped i := by
  simp only [State.memRead, ht, hr]

theorem memRead_of_plainRead {value : BitVec 32}
    (hr : s.cpu.lapic.mmioRead s.cfg s.now slot = plainRead s.cpu.lapic value) :
    s.memRead a 4 = .ok (value.setWidth 512) s := by
  rw [memRead_of_window ht hr, State.putLapic_self]

theorem memWrite_of_window {t : State} {v : Packed} (hw : s.mmioWrite slot (v.setWidth 32) = .ok t) :
    s.memWrite a 4 v = .ok () t := by
  simp only [State.memWrite, ht, hw]

theorem memWrite_of_window_stopped {i : Invariant} {v : Packed} (hw : s.mmioWrite slot (v.setWidth 32) = .error i) :
    s.memWrite a 4 v = .stopped i := by
  simp only [State.memWrite, ht, hw]

/-- A write that the register ignores. -/
theorem memWrite_of_ignored {v : Packed} (hw : s.mmioWrite slot (v.setWidth 32) = .ok s) :
    s.memWrite a 4 v = .ok () (s.putLapic (s.cpu.lapic, [])) := by
  rw [memWrite_of_window ht hw, State.putLapic_self]

theorem WindowRegister.of_stored {value : BitVec 32} {keep : BitVec 32 → Lapic}
    (hr : s.cpu.lapic.mmioRead s.cfg s.now slot = plainRead s.cpu.lapic value)
    (hw : ∀ x, s.mmioWrite slot x = s.putQuiet (keep x)) : WindowRegister s a value keep :=
  ⟨memRead_of_plainRead ht hr, fun _ => memWrite_of_window ht (hw _)⟩

theorem WindowRegister.of_ignored {value : BitVec 32}
    (hr : s.cpu.lapic.mmioRead s.cfg s.now slot = plainRead s.cpu.lapic value)
    (hw : ∀ x, s.mmioWrite slot x = .ok s) : WindowRegister s a value fun _ => s.cpu.lapic :=
  ⟨memRead_of_plainRead ht hr, fun _ => memWrite_of_ignored ht (hw _)⟩

/-- R370: a write of the task priority keeps its low byte and looks at the signal again. -/
theorem memWrite_tpr (hreg : apicReg slot = .tpr) (v : Packed) :
    s.memWrite a 4 v =
      .ok () (s.putLapic (Lapic.service s.cfg { s.cpu.lapic with taskPriority := v.setWidth 8 })) :=
  memWrite_of_window ht (by rw [State.mmioWrite, hreg, Lapic.setTpr, setWidth_8_of_32])

/-- R425: what a write of ICR_LO keeps, and sends. -/
theorem memWrite_icrLo (hreg : apicReg slot = .icrLo) (v : Packed) :
    let lo := v.setWidth 32 &&& 0xFFFFEFFF#32
    s.memWrite a 4 v = .ok () ((s.putLapic ({ s.cpu.lapic with icrLo := lo }, [])).sendIpi (s.cpu.lapic.icrHi >>> 24) lo) :=
  memWrite_of_window ht (by rw [State.mmioWrite, hreg]; rfl)

/-- R366: a write of EOI ends as `receive_EOI` does. -/
theorem memWrite_eoi (hreg : apicReg slot = .eoi) (v : Packed) :
    (∀ e, s.cpu.lapic.receiveEoi s.cfg = .ok e → s.memWrite a 4 v = .ok () (s.putLapic e)) ∧
      ∀ i, s.cpu.lapic.receiveEoi s.cfg = .error i → s.memWrite a 4 v = .stopped i := by
  have hwrite : s.mmioWrite slot (v.setWidth 32) = s.putChecked (s.cpu.lapic.receiveEoi s.cfg) := by
    rw [State.mmioWrite, hreg]
  exact ⟨fun e he => memWrite_of_window ht (by rw [hwrite, he]; rfl),
    fun i hi => memWrite_of_window_stopped ht (by rw [hwrite, hi]; rfl)⟩

/-- R405: a read of the current count answers, and stores, what `get_current_timer_count` gives. -/
theorem memRead_timerCurrent (hreg : apicReg slot = .timerCurrent) :
    (∀ v r, s.cpu.lapic.currentCount s.cfg s.now = .ok (v, r) → s.memRead a 4 = .ok (v.setWidth 512) (s.putLapic r)) ∧
      ∀ i, s.cpu.lapic.currentCount s.cfg s.now = .error i → s.memRead a 4 = .stopped i := by
  have hread : s.cpu.lapic.mmioRead s.cfg s.now slot = s.cpu.lapic.currentCount s.cfg s.now := by
    rw [Lapic.mmioRead, hreg]
  exact ⟨fun v r hr => memRead_of_window ht (hread.trans hr), fun i hi => memRead_of_window_stopped ht (hread.trans hi)⟩

/-- R57 to R59, R390: an LVT entry other than the timer's. -/
theorem window_lvt {i : Nat} (hreg : apicReg slot = .lvt i) :
    WindowRegister s a (s.cpu.lapic.lvtEntry i) fun v =>
      { s.cpu.lapic with lvt := s.cpu.lapic.lvt.setIfInBounds i (v &&& lvtMask i) } := by
  obtain ⟨-, hi⟩ := apicReg_eq_lvt hreg
  refine WindowRegister.of_stored ht (by rw [Lapic.mmioRead, hreg]) fun v => ?_
  rw [State.mmioWrite, hreg, ← Lapic.writeLvt_eq hi]

section
variable (hext : s.cfg.xapicExtSupported = true)
include hext

/-- R429: the extended feature register. -/
theorem window_extFeature (hreg : apicReg slot = .extFeature) :
    WindowRegister s a s.cfg.extFeatureValue fun _ => s.cpu.lapic :=
  WindowRegister.of_ignored ht (by rw [Lapic.mmioRead, hreg]; exact if_pos hext)
    fun _ => by rw [State.mmioWrite, hreg]; exact if_pos hext

/-- R429: the extended control register. -/
theorem window_extControl (hreg : apicReg slot = .extControl) :
    WindowRegister s a s.cpu.lapic.xapicExt fun v => { s.cpu.lapic with xapicExt := v &&& 0x3#32 } :=
  WindowRegister.of_stored ht (by rw [Lapic.mmioRead, hreg]; exact if_pos hext)
    fun _ => by rw [State.mmioWrite, hreg]; exact if_pos hext

theorem memRead_seoi (hreg : apicReg slot = .seoi) : s.memRead a 4 = .ok ((0#32).setWidth 512) s :=
  memRead_of_plainRead ht (by rw [Lapic.mmioRead, hreg]; exact if_pos hext)

/-- R369, R429: a write of SEOI ends a vector where bit 1 of the extended control register allows it. -/
theorem memWrite_seoi (hreg : apicReg slot = .seoi) (v : Packed) :
    s.memWrite a 4 v = .ok () (s.putLapic (if s.cpu.lapic.xapicExt.getLsbD 1 = true then
      s.cpu.lapic.receiveSeoi s.cfg (v.setWidth 8) else (s.cpu.lapic, []))) := by
  by_cases hallowed : s.cpu.lapic.xapicExt.getLsbD 1 = true
  · rw [if_pos hallowed]
    exact memWrite_of_window ht (by simp only [State.mmioWrite, hreg, hext, hallowed, if_true, setWidth_8_of_32])
  · rw [if_neg hallowed]
    exact memWrite_of_ignored ht (by simp only [State.mmioWrite, hreg, hext, hallowed, if_true, Bool.false_eq_true, if_false])

/-- R429: an interrupt-enable register is written where bit 0 of the extended control register allows it. -/
theorem window_ier {i : Nat} (hreg : apicReg slot = .ier i) :
    WindowRegister s a (bmWord s.cpu.lapic.ier i) fun v =>
      if s.cpu.lapic.xapicExt.getLsbD 0 = true then { s.cpu.lapic with ier := bmSetWord s.cpu.lapic.ier i v }
      else s.cpu.lapic := by
  have hread : s.cpu.lapic.mmioRead s.cfg s.now slot = plainRead s.cpu.lapic (bmWord s.cpu.lapic.ier i) := by
    rw [Lapic.mmioRead, hreg]; exact if_pos hext
  by_cases hallowed : s.cpu.lapic.xapicExt.getLsbD 0 = true
  · simp only [if_pos hallowed]
    exact WindowRegister.of_stored ht hread fun _ => by simp only [State.mmioWrite, hreg, hext, hallowed, if_true]
  · simp only [if_neg hallowed]
    exact WindowRegister.of_ignored ht hread
      fun _ => by simp only [State.mmioWrite, hreg, hext, hallowed, if_true, Bool.false_eq_true, if_false]

end

theorem target_slot {n : Nat} (hn : slot.toNat = n) : s.target a 4 = .window (BitVec.ofNat 8 n) := by
  rw [ht, ← hn, BitVec.ofNat_toNat, BitVec.setWidth_eq]

end

/-! The map of the ranges (R42). -/

theorem apicReg_isr {slot : BitVec 8} (h : 0x10 ≤ slot.toNat ∧ slot.toNat < 0x18) :
    apicReg slot = .isr (slot.toNat - 0x10) :=
  if_pos h

theorem apicReg_tmr {slot : BitVec 8} (h : 0x18 ≤ slot.toNat ∧ slot.toNat < 0x20) :
    apicReg slot = .tmr (slot.toNat - 0x18) := by
  revert slot; decide

theorem apicReg_irr {slot : BitVec 8} (h : 0x20 ≤ slot.toNat ∧ slot.toNat < 0x28) :
    apicReg slot = .irr (slot.toNat - 0x20) := by
  revert slot; decide

theorem apicReg_ier {slot : BitVec 8} (h : 0x48 ≤ slot.toNat ∧ slot.toNat < 0x50) :
    apicReg slot = .ier (slot.toNat - 0x48) := by
  revert slot; decide

/-- Slot 0x2F holds entry 6, slots 0x33 to 0x37 the entries 1 to 5. -/
theorem apicReg_lvt {slot : BitVec 8} (h : slot.toNat = 0x2F ∨ 0x33 ≤ slot.toNat ∧ slot.toNat < 0x38) :
    apicReg slot = .lvt (if slot.toNat = 0x2F then 6 else slot.toNat - 0x32) := by
  revert slot; decide

/-- R86, R90, R354: the routing of an access of one of the sizes. -/
theorem access_routing (s : State) (a : Word) {n : Nat} (hpos : 0 < n) (hn : n ≤ 64) :
    let inside (i : Nat) : Prop := (a + BitVec.ofNat 64 i - s.cfg.apicBase).toNat < 0x1000
    let aligned : Prop := n = 4 ∧ inside 0 ∧ (a - s.cfg.apicBase).toNat % 16 = 0
    (s.cpu.lapic.mode ≠ .xapic → s.target a n = .memory) ∧
    (s.cpu.lapic.mode = .xapic →
      (aligned → s.target a n = .window (BitVec.ofNat 8 ((a - s.cfg.apicBase).toNat / 16))) ∧
      (¬ aligned → (∃ i < n, inside i) →
        s.memRead a n = .raised (.malformedApicAccess (a - s.cfg.apicBase) n false) s ∧
        ∀ v, s.memWrite a n v = .raised (.malformedApicAccess (a - s.cfg.apicBase) n true) s) ∧
      ((∀ i < n, ¬ inside i) → s.target a n = .memory)) := by
  refine ⟨target_of_not_xapic, fun hmode => ⟨?_, fun hbad hinside => ?_, target_of_outside hpos hn⟩⟩
  · rintro ⟨rfl, hfirst, haligned⟩
    exact target_of_aligned hmode (by rwa [BitVec.add_zero] at hfirst) haligned
  · have ht := target_of_malformed hpos hn hmode hinside (by simpa only [BitVec.add_zero] using hbad)
    exact ⟨memRead_of_malformed ht, memWrite_of_malformed ht⟩

/-- Settles O42: the routing, then one clause per register of the window, each by its rule above. -/
theorem apicWindowRouting : Obligations.ApicWindowRouting := by
  refine ⟨fun s a n hn => ?_, fun s a slot ht => ?_⟩
  · have hsize : 0 < n ∧ n ≤ 64 := by revert n; decide
    exact access_routing s a hsize.1 hsize.2
  have slotIs {k : Nat} (hk : slot.toNat = k) := target_slot ht hk
  refine ⟨?id, ?version, ?tpr, ?apr, ?ppr, ?eoi, ?ldr, ?dfr, ?svr, ?isr, ?tmr, ?irr, ?lvt, ?icrLo, ?icrHi, ?lvtTimer,
    ?timerInitial, ?timerCurrent, ?timerDivide, ?extFeature, ?extControl, ?seoi, ?ier⟩
  case id | version | apr | ppr => exact fun hk => WindowRegister.of_ignored (slotIs hk) rfl fun _ => rfl
  case ldr | icrHi | timerInitial => exact fun hk => WindowRegister.of_stored (slotIs hk) rfl fun _ => rfl
  case tpr => exact fun hk => ⟨memRead_of_plainRead (slotIs hk) rfl, memWrite_tpr (slotIs hk) rfl⟩
  case eoi => exact fun hk => ⟨memRead_of_plainRead (slotIs hk) rfl, memWrite_eoi (slotIs hk) rfl⟩
  case dfr =>
    exact fun hk => WindowRegister.of_stored (slotIs hk) (congrArg (plainRead _) (destFormat_append _)) fun _ => rfl
  case svr =>
    exact fun hk => WindowRegister.of_stored (slotIs hk) (congrArg (plainRead _) (Lapic.svr_eq_append _))
      fun v => congrArg s.putQuiet (Lapic.writeSvr_eq s.cfg v _)
  case isr =>
    exact fun hk => WindowRegister.of_ignored ht (by rw [Lapic.mmioRead, apicReg_isr hk])
      fun _ => by rw [State.mmioWrite, apicReg_isr hk]
  case tmr =>
    exact fun hk => WindowRegister.of_ignored ht (by rw [Lapic.mmioRead, apicReg_tmr hk])
      fun _ => by rw [State.mmioWrite, apicReg_tmr hk]
  case irr =>
    exact fun hk => WindowRegister.of_ignored ht (by rw [Lapic.mmioRead, apicReg_irr hk])
      fun _ => by rw [State.mmioWrite, apicReg_irr hk]
  case lvt => exact fun hk => window_lvt ht (apicReg_lvt hk)
  case icrLo => exact fun hk => ⟨memRead_of_plainRead (slotIs hk) rfl, memWrite_icrLo (slotIs hk) rfl⟩
  case lvtTimer =>
    exact fun hk => WindowRegister.of_stored (slotIs hk) rfl fun v => congrArg s.putQuiet (Lapic.writeLvtTimer_eq s.cfg v _)
  case timerCurrent =>
    intro hk
    obtain ⟨hread, hstopped⟩ := memRead_timerCurrent (slotIs hk) rfl
    exact ⟨hread, hstopped, fun v => memWrite_of_ignored (slotIs hk) rfl⟩
  case timerDivide =>
    exact fun hk => WindowRegister.of_stored (slotIs hk) rfl fun v => congrArg s.putQuiet (Lapic.setDivide_eq v _)
  case extFeature => exact fun hk hext => window_extFeature (slotIs hk) hext rfl
  case extControl => exact fun hk hext => window_extControl (slotIs hk) hext rfl
  case seoi => exact fun hk hext => ⟨memRead_seoi (slotIs hk) hext rfl, memWrite_seoi (slotIs hk) hext rfl⟩
  case ier => exact fun hk hext => window_ier ht hext (apicReg_ier hk)

end Sys2Proof.Machine
end

section
/-! The layout of the descriptor word (spec/30_encoding.md R110): the fields are disjoint and cover the 144 bits. -/

namespace Sys2Proof

/-- A flag of the descriptor is one bit of the word. -/
theorem ofBool_getLsbD {n : Nat} (w : BitVec n) (i : Nat) : BitVec.ofBool (w.getLsbD i) = w.extractLsb' i 1 := by
  ext j hj
  obtain rfl : j = 0 := by omega
  simp

theorem extractLsb'_encodeFields_id (id : BitVec 10) (d : Desc) : (encodeFields id d).extractLsb' 0 10 = id :=
  BitVec.extractLsb'_append_eq_right

/-- Each field is reached by dropping the fields below it. -/
theorem decodeFields_encodeFields (id : BitVec 10) (d : Desc) : decodeFields (encodeFields id d) = d := by
  have hbit (b : Bool) : (BitVec.ofBool b == 1#1) = b := by cases b <;> rfl
  simp only [decodeFields, encodeFields, BitVec.getLsbD_eq_extractLsb', BitVec.extractLsb'_append_eq_of_le,
    BitVec.extractLsb'_append_eq_right, BitVec.extractLsb'_eq_self, Nat.reduceLeDiff, Nat.reduceSub, hbit]

/-- Each field begins where the one below it ends, so that together they are the whole word. -/
theorem encodeFields_decodeFields (w : DescWord) : encodeFields (w.extractLsb' 0 10) (decodeFields w) = w := by
  simp only [encodeFields, decodeFields, ofBool_getLsbD, BitVec.extractLsb'_append_extractLsb'_eq_extractLsb']
  exact BitVec.extractLsb'_eq_self

end Sys2Proof
end

section
/-! The rows of the ROM (spec/30_encoding.md R118): every instruction has one, and each builds an instruction with
its own id from the descriptor. -/

namespace Sys2Proof.Laws.RomRow

/-- Every instruction has its row: the lemmas above, one for each. -/
theorem statement (i : Instr) : Statement i :=
  Instr.rec
    illegal bt16G bt16I bt32G bt32I bt64G bt64I bts16G bts16I bts32G bts32I bts64G bts64I btr16G btr16I btr32G btr32I
    btr64G btr64I btc16G btc16I btc32G btc32I btc64G btc64I bsf16 bsf32 bsf64 bsr16 bsr32 bsr64 popcnt16 popcnt32
    popcnt64 tzcnt16 tzcnt32 tzcnt64 lzcnt16 lzcnt32 lzcnt64 andn32 andn64 bextr32 bextr64 blsi32 blsi64 blsmsk32
    blsmsk64 blsr32 blsr64 bzhi32 bzhi64 mulx32 mulx64 pdep32 pdep64 pext32 pext64 rorx32 rorx64 sarx32 sarx64 shlx32
    shlx64 shrx32 shrx64 bextri32 bextri64 blcfill32 blcfill64 blci32 blci64 blcic32 blcic64 blcmsk32 blcmsk64 blcs32
    blcs64 blsfill32 blsfill64 blsic32 blsic64 t1mskc32 t1mskc64 tzmsk32 tzmsk64 paddb paddw paddd paddq psubb psubw
    psubd psubq pand pandn por pxor pcmpeqb pcmpeqw pcmpeqd pcmpeqq pcmpgtb pcmpgtw pcmpgtd pcmpgtq pminsb pminsw
    pminsd pminub pminuw pminud pmaxsb pmaxsw pmaxsd pmaxub pmaxuw pmaxud psllwI pslldI psllqI psrlwI psrldI psrlqI
    psrawI psradI pshufd pshufb movdquLd movdquSt vpaddb vpaddw vpaddd vpaddq vpsubb vpsubw vpsubd vpsubq vpandd
    vpandq vpandnd vpandnq vpord vporq vpxord vpxorq vpcmpeqb vpcmpeqw vpcmpeqd vpcmpeqq vpcmpgtb vpcmpgtw vpcmpgtd
    vpcmpgtq vpminsb vpminsw vpminsd vpminsq vpminub vpminuw vpminud vpminuq vpmaxsb vpmaxsw vpmaxsd vpmaxsq vpmaxub
    vpmaxuw vpmaxud vpmaxuq vpsllwI vpslldI vpsllqI vpsrlwI vpsrldI vpsrlqI vpsrawI vpsradI vpsraqI vpsllvw vpsllvd
    vpsllvq vpsrlvw vpsrlvd vpsrlvq vpsravw vpsravd vpsravq vpshufd vpshufb vmovdqu8Ld vmovdqu16Ld vmovdqu32Ld
    vmovdqu64Ld vmovdqu8St vmovdqu16St vmovdqu32St vmovdqu64St vpcmpb vpcmpw vpcmpd vpcmpq vpcmpub vpcmpuw vpcmpud
    vpcmpuq vpcompressb vpcompressw vpcompressd vpcompressq vpexpandb vpexpandw vpexpandd vpexpandq vpermb vpermw
    vpermd vpermq valignd valignq kmovbKg kmovwKg kmovdKg kmovqKg kmovbGk kmovwGk kmovdGk kmovqGk vpcomb vpcomw vpcomd
    vpcomq vpcomub vpcomuw vpcomud vpcomuq vpperm vpcmov vpmacssww vpmacsww vpmacsswd vpmacswd vpmacssdd vpmacsdd
    vpmacssdql vpmacsdql vpmacssdqh vpmacsdqh vpmadcsswd vpmadcswd i

end Sys2Proof.Laws.RomRow

namespace Sys2Proof

theorem handlerId_desc_of_mem_romTables :
    ∀ rows ∈ romTables, ∀ row ∈ rows, ∀ d, (row.2 d).handlerId = row.1 ∧ (row.2 d).desc = d := by
  simp only [romTables, romIllegal, romBitOps, romBmi, romTbm, romSimdS, romSimdV, romAvx512, romXop,
    List.forall_mem_cons, List.not_mem_nil, false_implies, implies_true, and_true]
  and_intros <;> exact fun _ => ⟨rfl, rfl⟩

theorem romLookup_mem {id : BitVec 10} {rows : List (BitVec 10 × (Desc → Instr))} {c : Desc → Instr}
    (h : romLookup id rows = some c) : (id, c) ∈ rows := by
  induction rows with
  | nil => cases h
  | cons row rest ih =>
    unfold romLookup at h
    split at h
    · rename_i hid
      cases h; subst hid
      exact List.mem_cons_self
    · exact List.mem_cons_of_mem _ (ih h)

theorem romFind_mem {id : BitVec 10} {tables : List (List (BitVec 10 × (Desc → Instr)))} {c : Desc → Instr}
    (h : romFind id tables = some c) : ∃ rows ∈ tables, (id, c) ∈ rows := by
  induction tables with
  | nil => cases h
  | cons rows rest ih =>
    unfold romFind at h
    split at h
    · rename_i c' hc'
      cases h
      exact ⟨rows, List.mem_cons_self, romLookup_mem hc'⟩
    · obtain ⟨rows', hmem, hc⟩ := ih h
      exact ⟨rows', List.mem_cons_of_mem _ hmem, hc⟩

/-- What the ROM holds at an id builds instructions with that id. -/
theorem handlerId_desc_of_romFind {id : BitVec 10} {c : Desc → Instr} (h : romFind id romTables = some c) (d : Desc) :
    (c d).handlerId = id ∧ (c d).desc = d := by
  obtain ⟨rows, hrows, hrow⟩ := romFind_mem h
  exact handlerId_desc_of_mem_romTables rows hrows _ hrow d

end Sys2Proof
end

section
/-! Decoding and encoding (spec/30_encoding.md R110, R118, R119, R128). -/

namespace Sys2Proof

theorem decode_eq_ok_iff {w : DescWord} {i : Instr} :
    decode w = .ok i ↔ ∃ c, romFind (w.extractLsb' 0 10) romTables = some c ∧ c (decodeFields w) = i := by
  cases hfind : romFind (w.extractLsb' 0 10) romTables <;> simp [decode, hfind]

theorem decode_eq_error_iff {w : DescWord} {e : DecodeError} :
    decode w = .error e ↔ romFind (w.extractLsb' 0 10) romTables = none ∧ e = .unassigned (w.extractLsb' 0 10) := by
  cases hfind : romFind (w.extractLsb' 0 10) romTables <;> simp [decode, hfind, eq_comm]

theorem decode_encode (i : Instr) : decode (encode i) = .ok i := by
  obtain ⟨c, hfind, hc⟩ := Laws.RomRow.statement i
  refine decode_eq_ok_iff.2 ⟨c, ?_, ?_⟩
  · rwa [encode, extractLsb'_encodeFields_id]
  · rwa [encode, decodeFields_encodeFields]

theorem encode_of_decode {w : DescWord} {i : Instr} (h : decode w = .ok i) : encode i = w := by
  obtain ⟨c, hfind, rfl⟩ := decode_eq_ok_iff.1 h
  obtain ⟨hid, hdesc⟩ := handlerId_desc_of_romFind hfind (decodeFields w)
  rw [encode, hid, hdesc, encodeFields_decodeFields]

/-- R119: the ids that no row holds are those of no instruction. -/
theorem romFind_eq_none_iff {id : BitVec 10} : romFind id romTables = none ↔ ∀ i : Instr, i.handlerId ≠ id := by
  constructor
  · rintro hnone i rfl
    obtain ⟨c, hfind, -⟩ := Laws.RomRow.statement i
    rw [hnone] at hfind
    cases hfind
  · intro hids
    refine Option.eq_none_iff_forall_ne_some.2 fun c hfind => ?_
    exact hids (c (decodeFields 0)) (handlerId_desc_of_romFind hfind _).1

/-- Settles O58: an instruction's id selects its own row of the ROM, and every field is read back where it was put. -/
theorem decodeUndoesEncode : Obligations.DecodeUndoesEncode :=
  decode_encode

/-- Settles O59: the row a word selects has the word's id, and the fields cover the word. -/
theorem encodeUndoesDecode : Obligations.EncodeUndoesDecode := by
  refine ⟨fun w i => encode_of_decode, fun w => ?_⟩
  rw [← romFind_eq_none_iff]
  exact ⟨fun ⟨_, h⟩ => (decode_eq_error_iff.1 h).1, fun h => ⟨_, decode_eq_error_iff.2 ⟨h, rfl⟩⟩⟩

/-- Settles O60: each word is the encoding of its instruction, and the last one has an id that no row holds. -/
theorem wordsDecodeToTheirInstructions : Obligations.WordsDecodeToTheirInstructions := by
  unfold Obligations.WordsDecodeToTheirInstructions
  intro word d
  have hword {id : Nat} {i : Instr} (h : word id = encode i) : decode (word id) = .ok i := h ▸ decode_encode i
  refine ⟨hword (by decide), hword (by decide), hword (by decide), hword (by decide), hword (by decide),
    hword (by decide), hword (by decide), hword (by decide), hword (by decide), ?_⟩
  have hid : (word 0x216).extractLsb' 0 10 = 0x216#10 := by decide
  rw [decode_eq_error_iff, hid]
  exact ⟨rfl, rfl⟩

end Sys2Proof
end

section
/-! The step on a descriptor word (spec/30_encoding.md R111, R118, R119): the two tables of the ROM agree. -/

namespace Sys2Proof.Machine

/-- `f` is what `exec` does on the instructions that `c` builds. -/
def IsMeaning (c : Desc → Instr) (f : Desc → State → StepOutcome) : Prop :=
  ∀ d s, exec (c d) s = f d s

/-- A row of `romTables` and one of `meanings` that have the same id and go together. -/
def SameRow (row : BitVec 10 × (Desc → Instr)) (m : BitVec 10 × (Desc → State → StepOutcome)) : Prop :=
  row.1 = m.1 ∧ IsMeaning row.2 m.2

theorem romTables_meanings : List.Forall₂ (List.Forall₂ SameRow) romTables meanings := by
  simp only [SameRow, IsMeaning, romTables, romIllegal, romBitOps, romBmi, romTbm, romSimdS, romSimdV, romAvx512,
    romXop, meanings, meaningsIllegal, meaningsBitOps, meaningsBmi, meaningsTbm, meaningsSimdS, meaningsSimdV,
    meaningsAvx512, meaningsXop, List.forall₂_cons, List.Forall₂.nil, and_true, true_and]
  and_intros <;> exact fun _ _ => rfl

/-- In two families of rows that go together an id has an instruction and its meaning, or neither. -/
theorem romLookup_meaningIn {id : BitVec 10} {rows : List (BitVec 10 × (Desc → Instr))}
    {ms : List (BitVec 10 × (Desc → State → StepOutcome))} (h : List.Forall₂ SameRow rows ms) :
    Option.Rel IsMeaning (romLookup id rows) (meaningIn id ms) := by
  induction h with
  | nil => exact .none
  | cons hrow _ ih =>
    obtain ⟨hid, hexec⟩ := hrow
    simp only [romLookup, meaningIn, hid]
    split
    · exact .some hexec
    · exact ih

theorem romFind_meaningAt {id : BitVec 10} {tables : List (List (BitVec 10 × (Desc → Instr)))}
    {mss : List (List (BitVec 10 × (Desc → State → StepOutcome)))}
    (h : List.Forall₂ (List.Forall₂ SameRow) tables mss) :
    Option.Rel IsMeaning (romFind id tables) (meaningAt id mss) := by
  induction h with
  | nil => exact .none
  | cons hrows _ ih =>
    have hlookup := romLookup_meaningIn (id := id) hrows
    unfold romFind meaningAt
    generalize romLookup id _ = c at hlookup
    generalize meaningIn id _ = f at hlookup
    cases hlookup with
    | some hexec => exact .some hexec
    | none => exact ih

/-- R118: a word that decodes runs its instruction. -/
theorem runWord_of_decode_ok {w : DescWord} {i : Instr} (h : decode w = .ok i) (s : State) :
    runWord w s = exec i s := by
  obtain ⟨c, hfind, rfl⟩ := decode_eq_ok_iff.1 h
  have hrel := romFind_meaningAt (id := w.extractLsb' 0 10) romTables_meanings
  rw [hfind] at hrel
  unfold runWord
  generalize meaningAt _ meanings = f at hrel
  cases hrel with
  | some hexec => exact (hexec _ s).symm

/-- R119: a word with an unassigned id raises `InvalidOpcode`. -/
theorem runWord_of_decode_error {w : DescWord} {e : DecodeError} (h : decode w = .error e) (s : State) :
    runWord w s = .next (s.raise .invalidOpcode) := by
  obtain ⟨hfind, -⟩ := decode_eq_error_iff.1 h
  have hrel := romFind_meaningAt (id := w.extractLsb' 0 10) romTables_meanings
  rw [hfind] at hrel
  unfold runWord
  generalize meaningAt _ meanings = f at hrel
  cases hrel with
  | none => rfl

/-- A descriptor word is run with the CPU it is presented to in focus. -/
theorem step_of_descriptor {s u : State} {c : Nat} {w : DescWord} {rest : List Input}
    (hinputs : s.inputs = .descriptor c w :: rest) (hfocus : State.focusOn { s with inputs := rest } c = some u) :
    step s = runWord w u := by
  rw [step_of_inputs_cons hinputs]
  simp only [runInput, State.onCpu, hfocus]

/-- Moving the focus rearranges the CPUs alone. -/
theorem focusOn_rest {s u : State} {c : Nat} (h : s.focusOn c = some u) :
    u.mem = s.mem ∧ u.inputs = s.inputs ∧ u.trace = s.trace := by
  unfold State.focusOn at h
  split at h
  · cases h; exact ⟨rfl, rfl, rfl⟩
  · cases h

/-- Settles O1: the meaning at the word's id is `exec` of the instruction, and the focus has moved to the CPU. -/
theorem stepRunsTheDecodedInstruction : Obligations.StepRunsTheDecodedInstruction := by
  intro s u c w rest i hinputs hdecode hfocus
  obtain ⟨hcpus, hc⟩ := focusOn_eq_some hfocus
  obtain ⟨hmem, hrest, htrace⟩ := focusOn_rest hfocus
  exact ⟨(step_of_descriptor hinputs hfocus).trans (runWord_of_decode_ok hdecode u), hcpus, hc, hmem, hrest, htrace⟩

/-- Settles O2: both raise the signal, on the CPU the word was presented to. -/
theorem illegalAndUnassignedIdsRaiseInvalidOpcode : Obligations.IllegalAndUnassignedIdsRaiseInvalidOpcode := by
  refine ⟨fun d s => ⟨s.raise .invalidOpcode, rfl, rfl⟩, fun s u c w rest e hinputs hdecode hfocus => ?_⟩
  obtain ⟨-, rfl⟩ := focusOn_eq_some hfocus
  exact (step_of_descriptor hinputs hfocus).trans (runWord_of_decode_error hdecode u)

end Sys2Proof.Machine
end

section
/-! The operand roles and the feature of a handler by its id (spec/30_encoding.md R112 to R118). -/

namespace Sys2Proof

/-- The ids `lo` to `hi`. -/
def idIn (id lo hi : Nat) : Bool :=
  decide (lo ≤ id) && decide (id ≤ hi)

/-- The stores: MOVDQU (0x0AB) and VMOVDQU (0x140 to 0x143). -/
def isStore (id : Nat) : Bool :=
  id == 0x0AB || idIn id 0x140 0x143

/-- The operand roles of the handler at an id. -/
def shapeAt (id : Nat) : Shape where
  dst :=
    if isStore id then .unused
    else if id ≤ 0x073 || idIn id 0x19A 0x19D then .gpr
    else if idIn id 0x180 0x187 || idIn id 0x196 0x199 then .kreg
    else .vreg
  src1 :=
    if idIn id 0x010 0x027 && id % 2 == 1 || idIn id 0x080 0x0AB || idIn id 0x128 0x130 || id == 0x13A ||
      idIn id 0x13C 0x143 || idIn id 0x188 0x18F then .unused
    else if id ≤ 0x073 || idIn id 0x196 0x199 then .gpr
    else if idIn id 0x19A 0x19D then .kreg
    else .vreg
  src2 :=
    if idIn id 0x040 0x043 || idIn id 0x04A 0x051 || idIn id 0x054 0x059 then .gpr
    else if id ≤ 0x073 || idIn id 0x0A0 0x0A7 || idIn id 0x196 0x19D then .unused
    else .vreg
  src3 := if 0x208 ≤ id then .vreg else .unused
  mem :=
    if isStore id then .always
    else if idIn id 0x0A0 0x0A7 || idIn id 0x196 0x19D then .never
    else .operand (
      if idIn id 0x010 0x027 || idIn id 0x188 0x18B then .dst
      else if id ≤ 0x073 && !(idIn id 0x040 0x041 || idIn id 0x04C 0x051) then .src1
      else .src2)
  vlMax := if idIn id 0x100 0x195 then 2 else if id = 0x209 then 1 else 0
  imm :=
    if idIn id 0x010 0x027 && id % 2 == 1 || idIn id 0x052 0x053 || idIn id 0x0A0 0x0A8 || idIn id 0x128 0x130 ||
      id == 0x13A || idIn id 0x180 0x187 || idIn id 0x194 0x195 || idIn id 0x200 0x207 then .byte
    else if idIn id 0x060 0x061 then .control
    else .absent
  mask :=
    if !idIn id 0x100 0x195 || idIn id 0x110 0x117 then .absent
    else if idIn id 0x140 0x143 || idIn id 0x180 0x187 then .mergeOnly
    else if idIn id 0x188 0x18B then .mergeOnlyInMemory
    else .full

/-- What the handler at an id needs of `FEATURES`. -/
def featureNeedAt (id : Nat) : FeatureNeed :=
  if id = 0 then .nothing
  else if id ≤ 0x02D then .family .bitops
  else if id ≤ 0x030 then .family .popcnt
  else if id ≤ 0x033 then .family .bmi1
  else if id ≤ 0x036 then .family .lzcnt
  else if id ≤ 0x049 then .family .bmi1
  else if id ≤ 0x059 then .family .bmi2
  else if id ≤ 0x073 then .family .tbm
  else if id ≤ 0x0AB then .family .sse
  else if id ≤ 0x143 then .avxFamily
  else if id ≤ 0x19D then .family .avx512
  else .family .xop

/-- ILLEGAL alone has no operand roles, and every other handler those of its id. -/
theorem shape_eq (i : Instr) :
    i.shape = if i.handlerId.toNat = 0 then none else some (shapeAt i.handlerId.toNat) := by
  cases i <;> dsimp only [Instr.handlerId, BitVec.reduceToNat] <;> rfl

theorem featureNeed_eq (i : Instr) : i.featureNeed = featureNeedAt i.handlerId.toNat := by
  cases i <;> rfl

end Sys2Proof
end

section
/-! Every instruction is ILLEGAL or a handler under the contract of spec/40_primitives_flags_masking.md R180, with the
operand roles and the feature of its own row (spec/30_encoding.md R119 to R121). -/

namespace Sys2Proof.Machine

@[simp] theorem exec_illegal (d : Desc) (s : State) : exec (.illegal d) s = .next (s.raise .invalidOpcode) := rfl
@[simp] theorem malformed?_illegal (d : Desc) : (Instr.illegal d).malformed? = none := rfl

/-- The two kinds of instruction. -/
theorem exec_cases (i : Instr) :
    (∃ d, i = .illegal d) ∨
      ∃ sh body, i.shape = some sh ∧ ∀ s, exec i s = runHandler sh i.featureNeed body i.desc s := by
  cases i
  case illegal d => exact .inl ⟨d, rfl⟩
  all_goals exact .inr ⟨_, _, rfl, fun _ => rfl⟩

/-- R120: an instruction is refused exactly when its descriptor is malformed. -/
theorem exec_eq_refused_iff {i : Instr} {s : State} {r : Refusal} :
    exec i s = .refused r ↔ ∃ clause, i.malformed? = some clause ∧ r = .malformedDescriptor clause := by
  obtain ⟨d, rfl⟩ | ⟨sh, body, hshape, hexec⟩ := exec_cases i
  · simp
  · rw [hexec, runHandler_refused, Instr.malformed?, hshape]

/-- R121: a well-formed instruction whose feature is absent raises `InvalidOpcode`. -/
theorem exec_of_not_enabled {i : Instr} {s : State} (hwf : i.WellFormed) (hfeature : i.enabled s.cpu.features = false) :
    exec i s = .next (s.raise .invalidOpcode) := by
  obtain ⟨d, rfl⟩ | ⟨sh, body, hshape, hexec⟩ := exec_cases i
  · cases hfeature
  · rw [Instr.WellFormed, Instr.malformed?, hshape] at hwf
    obtain ⟨clause, hmalformed, -⟩ | ⟨-, -, hrun⟩ | ⟨-, hmet, -⟩ := runHandler_cases sh i.featureNeed body i.desc s
    · cases hwf.symm.trans hmalformed
    · rw [hexec, hrun]
    · cases hmet.symm.trans hfeature

/-- Settles O4: the contract tests the feature before the body runs, and the need of a handler is the table's. -/
theorem absentFeatureRaisesInvalidOpcode : Obligations.AbsentFeatureRaisesInvalidOpcode := by
  refine ⟨fun i s => exec_of_not_enabled, fun i fs => ?_⟩
  have hite {p : Prop} [Decidable p] (m n : FeatureNeed) :
      (if p then m else n).met fs i.desc = if p then m.met fs i.desc else n.met fs i.desc :=
    apply_ite (FeatureNeed.met · fs i.desc) p m n
  have havx : FeatureNeed.avxFamily.met fs i.desc =
      (fs.avx && (fs.avx512 || !(decide (i.desc.vl = 2#2) || decide (i.desc.opmask ≠ 0#3)))) :=
    congrArg (fs.avx && ·) (Bool.or_comm _ _)
  rw [Instr.enabled, featureNeed_eq, featureNeedAt]
  simp only [hite, havx]
  rfl

end Sys2Proof.Machine
end

section
/-! Well-formedness (spec/30_encoding.md R110 to R116, R120), clause by clause. -/

namespace Sys2Proof

/-- R112: a register field of the kind holds less than this; an unused one holds 0. -/
def RegKind.bound : RegKind → Nat
  | .unused => 1
  | .gpr    => 16
  | .vreg   => 32
  | .kreg   => 8

/-- The field of a descriptor in which an operand stands. -/
def Field.of (d : Desc) : Field → BitVec 5
  | .dst  => d.dst
  | .src1 => d.src1
  | .src2 => d.src2

theorem RegKind.admits_iff {k : RegKind} {r : BitVec 5} : k.admits r = true ↔ r.toNat < k.bound := by
  cases k with
  | unused => simp [RegKind.admits, RegKind.bound, ← BitVec.toNat_inj]
  | gpr => exact decide_eq_true_iff
  | vreg => exact iff_of_true rfl r.isLt
  | kreg => exact decide_eq_true_iff

/-- Every kind admits 0, so that an operand in memory only adds to what its field must be. -/
theorem fieldOk_iff {k : RegKind} {inMemory : Bool} {r : BitVec 5} :
    fieldOk k inMemory r = true ↔ r.toNat < k.bound ∧ (inMemory = true → r = 0#5) := by
  cases inMemory with
  | false => simp [fieldOk, RegKind.admits_iff]
  | true =>
    have hzero : r = 0#5 → r.toNat < k.bound := by rintro rfl; cases k <;> decide
    simpa [fieldOk] using hzero

theorem takes_iff {m : MemUse} {f : Field} {memform : Bool} :
    m.takes f memform = true ↔ m = .operand f ∧ memform = true := by
  cases m <;> simp [MemUse.takes, and_comm]

/-- R120: what it is to break no clause. -/
theorem malformed?_eq_none_iff {sh : Shape} {d : Desc} :
    sh.malformed? d = none ↔
      d.rsvd = 0#7 ∧ d.ilen ≠ 0#4 ∧ d.vl.toNat ≤ sh.vlMax ∧ sh.mask.admits d = true ∧ sh.imm.admits d.imm = true ∧
      (sh.mem.admits d.memform = true ∧ ∀ f, sh.mem = .operand f → d.memform = true → f.of d = 0#5) ∧
      d.dst.toNat < sh.dst.bound ∧ d.src1.toNat < sh.src1.bound ∧ d.src2.toNat < sh.src2.bound ∧
      d.src3.toNat < sh.src3.bound := by
  constructor
  · intro h
    obtain ⟨hrsvd, hilen, hvl, hmem, hmask, himm, hdst, hsrc1, hsrc2, hsrc3⟩ := Machine.wellFormed_clauses h
    rw [fieldOk_iff] at hdst hsrc1 hsrc2 hsrc3
    refine ⟨hrsvd, hilen, hvl, hmask, himm, ⟨hmem, fun f hf hmemform => ?_⟩, hdst.1, hsrc1.1, hsrc2.1, hsrc3.1⟩
    have htakes := takes_iff.2 ⟨hf, hmemform⟩
    cases f with
    | dst => exact hdst.2 htakes
    | src1 => exact hsrc1.2 htakes
    | src2 => exact hsrc2.2 htakes
  · rintro ⟨hrsvd, hilen, hvl, hmask, himm, ⟨hmem, hfield⟩, hdst, hsrc1, hsrc2, hsrc3⟩
    have hdst : fieldOk sh.dst (sh.mem.takes .dst d.memform) d.dst = true :=
      fieldOk_iff.2 ⟨hdst, fun h => (takes_iff.1 h).elim (hfield _)⟩
    have hsrc1 : fieldOk sh.src1 (sh.mem.takes .src1 d.memform) d.src1 = true :=
      fieldOk_iff.2 ⟨hsrc1, fun h => (takes_iff.1 h).elim (hfield _)⟩
    have hsrc2 : fieldOk sh.src2 (sh.mem.takes .src2 d.memform) d.src2 = true :=
      fieldOk_iff.2 ⟨hsrc2, fun h => (takes_iff.1 h).elim (hfield _)⟩
    have hsrc3 : fieldOk sh.src3 false d.src3 = true := fieldOk_iff.2 ⟨hsrc3, nofun⟩
    simp [Shape.malformed?, hrsvd, hilen, Nat.not_lt.2 hvl, hmem, hmask, himm, hdst, hsrc1, hsrc2, hsrc3]

/-! Each role by conditions on the id. -/

/-- R114: handlers without a masked form (`absent`), those that do not zero (`merge`), or not in memory (`memory`). -/
theorem maskUse_admits_iff (absent merge memory : Bool) (d : Desc) :
    (if absent then MaskUse.absent
      else if merge then .mergeOnly else if memory then .mergeOnlyInMemory else .full).admits d = true ↔
      ((merge || memory && d.memform) = true → d.zmask = false) ∧
      (absent = true → d.opmask = 0#3 ∧ d.zmask = false) := by
  cases absent with
  | true => simp +contextual [MaskUse.admits]
  | false =>
    cases merge with
    | true => simp [MaskUse.admits]
    | false => cases memory <;> simp [MaskUse.admits, or_iff_not_imp_left]

/-- R115: handlers with an 8-bit immediate (`byte`), those with a 32-bit one (`control`). -/
theorem immUse_admits_iff (byte control : Bool) (imm : BitVec 32) :
    (if byte then ImmUse.byte else if control then .control else .absent).admits imm = true ↔
      if byte then imm.toNat < 256 else if control then True else imm = 0#32 := by
  cases byte with
  | true =>
    have hhigh : imm.extractLsb' 8 24 = 0#24 ↔ imm.toNat < 256 := by
      rw [← BitVec.toNat_inj, BitVec.extractLsb'_toNat, Nat.shiftRight_eq_div_pow]
      have := imm.isLt
      simp only [BitVec.toNat_ofNat]
      omega
    simpa [ImmUse.admits] using hhigh
  | false => cases control <;> simp [ImmUse.admits]

/-- R116: handlers that store (`store`), those that allow no memory (`never`), and where the operand of the others
stands. -/
theorem memUse_admits_iff {store never memform : Bool} {f : Field} {P : Field → Prop}
    (hdisjoint : store = true → never = false) :
    let m : MemUse := if store then .always else if never then .never else .operand f
    (m.admits memform = true ∧ ∀ g, m = .operand g → memform = true → P g) ↔
      (store = true → memform = true) ∧ (never = true → memform = false) ∧ (memform = true → store = false → P f) := by
  cases store with
  | true => simp [MemUse.admits, hdisjoint rfl]
  | false => cases never <;> simp +contextual [MemUse.admits]

/-- No store is a handler that allows no memory. -/
theorem not_never_of_isStore {id : Nat} (h : isStore id = true) :
    (idIn id 0x0A0 0x0A7 || idIn id 0x196 0x19D) = false := by
  simp only [isStore, idIn, Bool.or_eq_true, Bool.and_eq_true, beq_iff_eq, decide_eq_true_eq] at h
  simp only [idIn, Bool.or_eq_false_iff, Bool.and_eq_false_iff, decide_eq_false_iff_not]
  omega

theorem wellFormed_iff (i : Instr) :
    i.WellFormed ↔ i.handlerId.toNat = 0 ∨ (shapeAt i.handlerId.toNat).malformed? i.desc = none := by
  rw [Instr.WellFormed, Instr.malformed?, shape_eq]
  by_cases hid : i.handlerId.toNat = 0 <;> simp [hid]

end Sys2Proof

namespace Sys2Proof.Machine

/-- Settles O3: the contract refuses a malformed descriptor and nothing else, and the roles of a handler are those of
its id. -/
theorem refusedExactlyWhenMalformed : Obligations.RefusedExactlyWhenMalformed := by
  refine ⟨fun i s r => exec_eq_refused_iff, fun i => ?_⟩
  generalize hid : i.handlerId.toNat = id
  rw [wellFormed_iff, hid, malformed?_eq_none_iff]
  simp only [shapeAt, maskUse_admits_iff, immUse_admits_iff,
    memUse_admits_iff (P := fun f => f.of i.desc = 0#5) not_never_of_isStore,
    apply_ite RegKind.bound, apply_ite (Field.of i.desc)]
  refine or_congr Iff.rfl ⟨?_, ?_⟩
  · rintro ⟨hrsvd, hilen, hvl, ⟨hzero, habsent⟩, himm, ⟨hstore, hnever, hfield⟩, hdst, hsrc1, hsrc2, hsrc3⟩
    exact ⟨hrsvd, hilen, hvl, hzero, habsent, himm, hstore, hnever, hdst, hsrc1, hsrc2, hsrc3, hfield⟩
  · rintro ⟨hrsvd, hilen, hvl, hzero, habsent, himm, hstore, hnever, hdst, hsrc1, hsrc2, hsrc3, hfield⟩
    exact ⟨hrsvd, hilen, hvl, ⟨hzero, habsent⟩, himm, ⟨hstore, hnever, hfield⟩, hdst, hsrc1, hsrc2, hsrc3⟩

end Sys2Proof.Machine
end

section
/-! Which register files a handler writes (spec/30_encoding.md R112, R117): an access of memory or of the window writes
no register of the EE, so what a body writes is what it does with its operands. -/

namespace Sys2Proof.Machine

/-! The classes of handlers by what they write. -/

/-- The register files that a handler may write. -/
inductive WriteClass where
  /-- general registers and RFLAGS -/
  | general
  /-- vector registers -/
  | vector
  /-- opmask registers -/
  | opmask
  /-- general registers, no flag -/
  | fromOpmask

/-- The register files that a handler of the class may not write hold what they hold in `e`. -/
def WriteClass.Kept (c : WriteClass) (e : Ee) (s : State) : Prop :=
  match c with
  | .general    => s.cpu.ee.v = e.v ∧ s.cpu.ee.k = e.k
  | .vector     => s.cpu.ee.rflags = e.rflags ∧ s.cpu.ee.gpr = e.gpr ∧ s.cpu.ee.k = e.k
  | .opmask     => s.cpu.ee.rflags = e.rflags ∧ s.cpu.ee.gpr = e.gpr ∧ s.cpu.ee.v = e.v
  | .fromOpmask => s.cpu.ee.rflags = e.rflags ∧ s.cpu.ee.v = e.v ∧ s.cpu.ee.k = e.k

/-- It depends on the registers of the EE in focus alone. -/
theorem WriteClass.Kept.of_ee {c : WriteClass} {e : Ee} {s t : State} (hs : c.Kept e s) (h : t.cpu.ee = s.cpu.ee) :
    c.Kept e t := by
  unfold WriteClass.Kept at *
  rwa [h]

theorem WriteClass.kept_self (c : WriteClass) (s : State) : c.Kept s.cpu.ee s := by
  cases c <;> simp [WriteClass.Kept]

/-! Accesses keep every register. -/

section
variable {c : WriteClass} {e : Ee} {s : State}

/-- A part that only reads: the LAPICs alone may change, and a signal leaves the state as it was. -/
theorem Access.leaves_of_reads {α : Type} {r : Access α} (hs : c.Kept e s) (hok : ∀ {v t}, r = .ok v t → LapicOnly s t)
    (hraised : ∀ {g t}, r = .raised g t → t = s) : r.Leaves (c.Kept e) := by
  cases r with
  | ok v t => exact hs.of_ee (hok rfl).ee
  | raised g t => exact hraised rfl ▸ hs
  | stopped i => trivial

theorem memRead_leaves (hs : c.Kept e s) (a : Word) (n : Nat) : (s.memRead a n).Leaves (c.Kept e) :=
  Access.leaves_of_reads hs .memRead memRead_raised

theorem readElements_leaves (hs : c.Kept e s) (w : Nat) (as : List Word) :
    (s.readElements w as).Leaves (c.Kept e) :=
  Access.leaves_of_reads hs .readElements readElements_raised

theorem memWrite_leaves (hs : c.Kept e s) (a : Word) (n : Nat) (v : Packed) :
    (s.memWrite a n v).Leaves (c.Kept e) := by
  cases h : s.memWrite a n v with
  | ok _ t =>
    obtain ⟨-, -, rfl⟩ | ⟨slot, -, hmmio⟩ := memWrite_ok h
    · exact hs
    · exact hs.of_ee (LapicOnly.mmioWrite hmmio).ee
  | raised g t => exact memWrite_raised h ▸ hs
  | stopped i => trivial

theorem writeElements_leaves (hs : c.Kept e s) (w : Nat) (es : List (Word × BitVec w)) :
    (s.writeElements w es).Leaves (c.Kept e) := by
  induction es generalizing s with
  | nil => exact hs
  | cons e es ih => exact Access.leaves_bind (memWrite_leaves hs _ _ _) fun _ _ ht => ih ht

theorem srcG_leaves (hs : c.Kept e s) (w : Nat) (d : Desc) (r : BitVec 5) : (s.srcG w d r).Leaves (c.Kept e) := by
  unfold State.srcG
  split
  · exact Access.leaves_bind (memRead_leaves hs _ _) fun _ _ ht => ht
  · exact hs

theorem srcV_leaves (hs : c.Kept e s) (L : Nat) (d : Desc) (r : BitVec 5) : (s.srcV L d r).Leaves (c.Kept e) := by
  unfold State.srcV
  split
  · exact memRead_leaves hs _ _
  · exact hs

theorem bitBase_leaves (hs : c.Kept e s) (w : Nat) (o : BitOffset) (d : Desc) :
    (s.bitBase w o d).Leaves (c.Kept e) := by
  unfold State.bitBase
  split
  · exact Access.leaves_bind (memRead_leaves hs _ _) fun _ _ ht => ht
  · exact hs

end

/-! The bodies. -/

/-- The bodies of each class (steps 4 to 7 of R180). -/
inductive BodyWrites : WriteClass → (Desc → State → Access Unit) → Prop where
  | bitTest (w : Nat) (o : BitOffset) (new : BitVec w → Nat → Option (BitVec w)) : BodyWrites .general (bitTest w o new)
  | bitScan (w : Nat) (index : BitVec w → Nat) : BodyWrites .general (bitScan w index)
  | popcnt (w : Nat) : BodyWrites .general (popcntBody w)
  | count (w : Nat) (f : BitVec w → Nat) : BodyWrites .general (countBody w f)
  | andn (w : Nat) : BodyWrites .general (andnBody w)
  | bextr (w : Nat) : BodyWrites .general (bextrBody w)
  | source (w : Nat) (f : BitVec w → BitVec w) (cf : BitVec w → Bool) : BodyWrites .general (sourceBody w f cf)
  | bzhi (w : Nat) : BodyWrites .general (bzhiBody w)
  | mulx (w : Nat) : BodyWrites .general (mulxBody w)
  | deposit (w : Nat) (f : BitVec w → BitVec w → BitVec w) : BodyWrites .general (depositBody w f)
  | rorx (w : Nat) : BodyWrites .general (rorxBody w)
  | shift (w : Nat) (f : BitVec w → Nat → BitVec w) : BodyWrites .general (shiftBody w f)
  | bextri (w : Nat) : BodyWrites .general (bextriBody w)
  | sseBinary (op : PackedOp) : BodyWrites .vector (sseBinary op)
  | sseShift (w : Nat) (f : BitVec w → Nat → BitVec w) : BodyWrites .vector (sseShift w f)
  | pshufd : BodyWrites .vector pshufdBody
  | movdquLoad : BodyWrites .vector movdquLoad
  | movdquStore : BodyWrites .vector movdquStore
  | vecBinary (w : Nat) (op : PackedOp) : BodyWrites .vector (vecBinary w op)
  | vecCompare (op : PackedOp) : BodyWrites .vector (vecCompare op)
  | vecShift (w : Nat) (f : BitVec w → Nat → BitVec w) : BodyWrites .vector (vecShift w f)
  | vpshufd : BodyWrites .vector vpshufdBody
  | vmovdquLoad (w : Nat) : BodyWrites .vector (vmovdquLoad w)
  | vmovdquStore (w : Nat) : BodyWrites .vector (vmovdquStore w)
  | compress (w : Nat) : BodyWrites .vector (compressBody w)
  | expand (w : Nat) : BodyWrites .vector (expandBody w)
  | valign (w : Nat) : BodyWrites .vector (valignBody w)
  | xopCompare (w : Nat) (pred : BitVec 3 → BitVec w → BitVec w → Bool) : BodyWrites .vector (xopCompare w pred)
  | xopTernary (f : Packed → Packed → Packed → Packed) : BodyWrites .vector (xopTernary f)
  | maskCompare (w : Nat) (pred : BitVec 3 → BitVec w → BitVec w → Bool) : BodyWrites .opmask (maskCompare w pred)
  | kmovToMask (b : Nat) : BodyWrites .opmask (kmovToMask b)
  | kmovToGpr (b w : Nat) : BodyWrites .fromOpmask (kmovToGpr b w)

section
variable {e : Ee} {s : State}

theorem kept_general_writeFlags (u : FlagUpdate) (hs : WriteClass.general.Kept e s) :
    WriteClass.general.Kept e (s.writeFlags u) := by
  unfold State.writeFlags
  cases s.cfg.undefFlagPolicy <;> exact hs

theorem WriteClass.Kept.advance {c : WriteClass} (hs : c.Kept e s) (n : BitVec 4) : c.Kept e (s.advance n) := by
  cases c <;> exact hs

theorem kept_general_setXFlags {w : Nat} (i : BitVec 5) (v : BitVec w) (u : FlagUpdate)
    (hs : WriteClass.general.Kept e s) : WriteClass.general.Kept e ((s.setX i v).writeFlags u) :=
  kept_general_writeFlags u (s := s.setX i v) hs

theorem bitTest_leaves (hs : WriteClass.general.Kept e s) (w : Nat) (o : BitOffset)
    (new : BitVec w → Nat → Option (BitVec w)) (d : Desc) :
    (bitTest w o new d s).Leaves (WriteClass.general.Kept e) := by
  refine Access.leaves_bind (bitBase_leaves hs w o d) fun base s₁ hs₁ => ?_
  dsimp only
  split
  · exact kept_general_writeFlags _ hs₁
  · split
    · exact Access.leaves_bind (memWrite_leaves hs₁ _ _ _) fun _ s₂ hs₂ => kept_general_writeFlags _ hs₂
    · exact kept_general_setXFlags _ _ _ hs₁

theorem bitScan_leaves (hs : WriteClass.general.Kept e s) (w : Nat) (index : BitVec w → Nat) (d : Desc) :
    (bitScan w index d s).Leaves (WriteClass.general.Kept e) := by
  refine Access.leaves_bind (srcG_leaves hs _ _ _) fun src s₁ hs₁ => ?_
  split
  · exact kept_general_writeFlags _ hs₁
  · exact kept_general_setXFlags _ _ _ hs₁

theorem bzhi_leaves (hs : WriteClass.general.Kept e s) (w : Nat) (d : Desc) :
    (bzhiBody w d s).Leaves (WriteClass.general.Kept e) := by
  refine Access.leaves_bind (srcG_leaves hs _ _ _) fun v s₁ hs₁ => ?_
  dsimp only
  split
  · exact kept_general_setXFlags _ _ _ hs₁
  · exact kept_general_setXFlags _ _ _ hs₁

theorem vmovdquLoad_leaves (hs : WriteClass.vector.Kept e s) (w : Nat) (d : Desc) :
    (vmovdquLoad w d s).Leaves (WriteClass.vector.Kept e) := by
  unfold vmovdquLoad
  split
  · exact Access.leaves_bind (readElements_leaves hs _ _) fun _ _ ht => ht
  · exact Access.leaves_bind (srcV_leaves hs _ _ _) fun _ _ ht => ht

theorem vmovdquStore_leaves (hs : WriteClass.vector.Kept e s) (w : Nat) (d : Desc) :
    (vmovdquStore w d s).Leaves (WriteClass.vector.Kept e) := by
  unfold vmovdquStore
  dsimp only
  split
  · exact memWrite_leaves hs _ _ _
  · exact writeElements_leaves hs _ _

theorem compress_leaves (hs : WriteClass.vector.Kept e s) (w : Nat) (d : Desc) :
    (compressBody w d s).Leaves (WriteClass.vector.Kept e) := by
  unfold compressBody
  dsimp only
  split
  · exact writeElements_leaves hs _ _
  · exact hs

theorem expand_leaves (hs : WriteClass.vector.Kept e s) (w : Nat) (d : Desc) :
    (expandBody w d s).Leaves (WriteClass.vector.Kept e) := by
  unfold expandBody
  dsimp only
  split
  · exact Access.leaves_bind (readElements_leaves hs _ _) fun _ _ ht => ht
  · exact Access.leaves_bind (srcV_leaves hs _ _ _) fun _ _ ht => ht

/-- A body keeps the register files that its class may not write, however it ends. -/
theorem BodyWrites.leaves {c : WriteClass} {body : Desc → State → Access Unit} (hbody : BodyWrites c body)
    (hs : c.Kept e s) (d : Desc) : (body d s).Leaves (c.Kept e) := by
  cases hbody with
  | bitTest w o new => exact bitTest_leaves hs w o new d
  | bitScan w index => exact bitScan_leaves hs w index d
  | bzhi w => exact bzhi_leaves hs w d
  | popcnt | count | andn | bextr | source | bextri =>
    exact Access.leaves_bind (srcG_leaves hs _ _ _) fun _ _ ht => kept_general_setXFlags _ _ _ ht
  | mulx | deposit | rorx | shift => exact Access.leaves_bind (srcG_leaves hs _ _ _) fun _ _ ht => ht
  | sseBinary | pshufd | movdquLoad | vecBinary | vecCompare | vecShift | vpshufd | valign | xopCompare | xopTernary |
      maskCompare =>
    exact Access.leaves_bind (srcV_leaves hs _ _ _) fun _ _ ht => ht
  | sseShift | kmovToMask | kmovToGpr => exact hs
  | movdquStore => exact memWrite_leaves hs _ _ _
  | vmovdquLoad w => exact vmovdquLoad_leaves hs w d
  | vmovdquStore w => exact vmovdquStore_leaves hs w d
  | compress w => exact compress_leaves hs w d
  | expand w => exact expand_leaves hs w d

end

end Sys2Proof.Machine
end

section
/-! The class of a handler by its id (spec/30_encoding.md R118). -/

namespace Sys2Proof.Machine

/-- The class of the handler at an id: the compares to a mask and KMOV are the exceptions among the vector handlers. -/
def writeClassAt (id : Nat) : WriteClass :=
  if id < 0x080 then .general
  else if idIn id 0x180 0x187 || idIn id 0x196 0x199 then .opmask
  else if idIn id 0x19A 0x19D then .fromOpmask
  else .vector

theorem BodyWrites.of_eq {c c' : WriteClass} {body : Desc → State → Access Unit} (h : BodyWrites c body) (hc : c = c') :
    BodyWrites c' body :=
  hc ▸ h

/-- Every instruction but ILLEGAL runs a body of the class of its id. -/
theorem exec_bodyWrites (i : Instr) :
    (∃ d, i = .illegal d) ∨
      ∃ sh need body, BodyWrites (writeClassAt i.handlerId.toNat) body ∧
        ∀ s, exec i s = runHandler sh need body i.desc s := by
  cases i
  case illegal d => exact .inl ⟨d, rfl⟩
  all_goals
    dsimp only [Instr.handlerId, BitVec.reduceToNat]
    refine .inr ⟨_, _, _, ?_, fun _ => rfl⟩
    apply BodyWrites.of_eq
    · with_reducible constructor
    · rfl

/-- What an instruction may not write by its class, it keeps. -/
theorem exec_kept {i : Instr} {s t : State} (h : exec i s = .next t) :
    (writeClassAt i.handlerId.toNat).Kept s.cpu.ee t := by
  have hself := WriteClass.kept_self (writeClassAt i.handlerId.toNat) s
  obtain ⟨d, rfl⟩ | ⟨sh, need, body, hbody, hexec⟩ := exec_bodyWrites i
  · cases h; exact hself.of_ee rfl
  · have hleaves := hbody.leaves hself i.desc
    obtain rfl | ⟨g, u, hu, rfl⟩ | ⟨u, hu, rfl⟩ := runHandler_next (hexec s ▸ h)
    · exact hself.of_ee rfl
    · rw [hu] at hleaves
      exact WriteClass.Kept.of_ee hleaves rfl
    · rw [hu] at hleaves
      exact WriteClass.Kept.advance hleaves _

theorem KeepsRegisters.of_ee {s t : State} {gprs vregs kregs : List Nat}
    (hgpr : gprs = List.range 16 ∨ t.cpu.ee.gpr = s.cpu.ee.gpr)
    (hvreg : vregs = List.range 32 ∨ t.cpu.ee.v = s.cpu.ee.v)
    (hkreg : kregs = List.range 8 ∨ t.cpu.ee.k = s.cpu.ee.k) : KeepsRegisters s t gprs vregs kregs where
  gpr i hi hn := by
    obtain rfl | h := hgpr
    · exact absurd (List.mem_range.2 hi) hn
    · simp only [State.gpr, h]
  vreg i hi hn := by
    obtain rfl | h := hvreg
    · exact absurd (List.mem_range.2 hi) hn
    · simp only [State.vreg, h]
  kreg i hi hn := by
    obtain rfl | h := hkreg
    · exact absurd (List.mem_range.2 hi) hn
    · simp only [State.kreg, h]

/-- Settles O7: the class of an id says which files it may write, and KMOV and the compares to a mask are classes of
their own. -/
theorem registerFilesWrittenPerClass : Obligations.RegisterFilesWrittenPerClass := by
  intro i s t h
  have hkept := exec_kept h
  refine ⟨fun hlt => ?_, fun hge => ?_⟩
  · rw [writeClassAt, if_pos hlt] at hkept
    obtain ⟨hv, hk⟩ := hkept
    exact .of_ee (.inl rfl) (.inr hv) (.inr hk)
  · rw [writeClassAt, if_neg (not_lt.2 hge)] at hkept
    split at hkept
    case isTrue hmask =>
      obtain ⟨hrflags, hgpr, -⟩ := hkept
      refine ⟨hrflags, fun _ => .of_ee (.inr hgpr) (.inl rfl) (.inl rfl), fun hn => absurd ?_ hn⟩
      simp only [idIn, Bool.or_eq_true, Bool.and_eq_true, decide_eq_true_eq] at hmask
      simp only [List.mem_cons, List.not_mem_nil, or_false]
      omega
    case isFalse =>
      split at hkept
      case isTrue hkmov =>
        obtain ⟨hrflags, -, hk⟩ := hkept
        refine ⟨hrflags, fun hn => absurd ?_ hn, fun _ => .of_ee (.inl rfl) (.inl rfl) (.inr hk)⟩
        simp only [idIn, Bool.and_eq_true, decide_eq_true_eq] at hkmov
        simp only [List.mem_cons, List.not_mem_nil, or_false]
        omega
      case isFalse =>
        obtain ⟨hrflags, hgpr, hk⟩ := hkept
        exact ⟨hrflags, fun _ => .of_ee (.inr hgpr) (.inl rfl) (.inl rfl),
          fun _ => .of_ee (.inl rfl) (.inl rfl) (.inr hk)⟩

end Sys2Proof.Machine
end

section
/-! What reading an operand gives and leaves (spec/40_primitives_flags_masking.md R161, R162, spec/20_memory.md R82, R83). -/

namespace Sys2Proof.Machine

/-! A read changes at most the LAPIC in focus. -/

/-- `t` is `s` with what an access of the window made of the LAPIC in focus, and its calls. -/
def ReadOf (s t : State) : Prop :=
  ∃ r : LapicEff, t = s.putLapic r

theorem ReadOf.refl (s : State) : ReadOf s s := ⟨_, s.putLapic_self.symm⟩

theorem ReadOf.trans {s t u : State} (h : ReadOf s t) (k : ReadOf t u) : ReadOf s u := by
  obtain ⟨r, rfl⟩ := h
  obtain ⟨q, rfl⟩ := k
  refine ⟨(q.1, r.2 ++ q.2), ?_⟩
  simp only [State.putLapic, Cpu.setLapic, State.focus, List.map_append, List.append_assoc]

theorem ReadOf.memRead {s t : State} {a : Word} {n : Nat} {v : Packed} (h : s.memRead a n = .ok v t) : ReadOf s t := by
  obtain ⟨-, -, rfl, -⟩ | ⟨_, r, -, -, -, rfl⟩ := memRead_ok h
  · exact .refl _
  · exact ⟨r.2, rfl⟩

theorem ReadOf.srcG {s t : State} {w : Nat} {d : Desc} {r : BitVec 5} {v : BitVec w} (h : s.srcG w d r = .ok v t) :
    ReadOf s t := by
  unfold State.srcG at h
  split at h
  · obtain ⟨x, u, hx, hu⟩ := Access.bind_eq_ok.1 h
    cases hu; exact .memRead hx
  · cases h; exact .refl _

theorem ReadOf.srcV {s t : State} {L : Nat} {d : Desc} {r : BitVec 5} {v : Packed} (h : s.srcV L d r = .ok v t) :
    ReadOf s t := by
  unfold State.srcV at h
  split at h
  · exact .memRead h
  · cases h; exact .refl _

theorem ReadOf.readElements {w : Nat} {as : List Word} {s t : State} {es : List (BitVec w)}
    (h : s.readElements w as = .ok es t) : ReadOf s t := by
  induction as generalizing s es with
  | nil => cases h; exact .refl _
  | cons a as ih =>
    obtain ⟨x, u, hx, hu⟩ := Access.bind_eq_ok.1 (Access.undone_eq_ok.1 h)
    obtain ⟨y, v, hy, hv⟩ := Access.bind_eq_ok.1 hu
    cases hv; exact (ReadOf.memRead hx).trans (ih hy)

/-! What an operand is. -/

section
variable {s : State} {d : Desc}

theorem srcG_of_register (hm : d.memform = false) (w : Nat) (r : BitVec 5) :
    s.srcG w d r = .ok ((s.gpr r.toNat).setWidth w) s := by
  simp [State.srcG, hm, State.x]

theorem srcV_of_register (hm : d.memform = false) (L : Nat) (r : BitVec 5) :
    s.srcV L d r = .ok (lowBits L (s.vreg r.toNat)) s := by
  simp [State.srcV, hm]

variable {n : Nat}

theorem srcG_of_memory (hm : d.memform = true) (ht : s.target d.addr n = .memory)
    (hf : memFaultOf s.memFaults false d.addr n = none) (r : BitVec 5) :
    s.srcG (8 * n) d r = .ok ((Memory.readBytes s.mem d.addr n).setWidth (8 * n)) s := by
  simp [State.srcG, hm, memRead_of_memory ht hf]

theorem srcV_of_memory (hm : d.memform = true) (ht : s.target d.addr n = .memory)
    (hf : memFaultOf s.memFaults false d.addr n = none) (r : BitVec 5) :
    s.srcV (8 * n) d r = .ok (Memory.readBytes s.mem d.addr n) s := by
  simp [State.srcV, hm, memRead_of_memory ht hf]

end

/-- Bit `j` of byte `i` of a value read. -/
theorem getLsbD_readBytes (m : List Host.Cell) (a : Word) {n i j : Nat} (hn : n ≤ 64) (hi : i < n) (hj : j < 8) :
    (Memory.readBytes m a n).getLsbD (8 * i + j) = (Memory.read m (byteAddr a i)).getLsbD j := by
  rw [← lane_readBytes m a hn hi, getLsbD_lane, decide_eq_true hj, Bool.true_and]

/-- Settles O9: an operand is a register's low bits or the bytes at `addr`, and a read writes at most the LAPIC in focus. -/
theorem sourceOperands : Obligations.SourceOperands := by
  intro s d r
  refine ⟨fun hm => ⟨fun w => srcG_of_register hm w r, fun L => ⟨_, srcV_of_register hm L r, fun j _ => ?_⟩⟩,
    fun hm n hn ht hf => ?_, ?_⟩
  · rw [getLsbD_lowBits, Bool.and_comm]
  · have hn : n ≤ 64 := by
      simp only [List.mem_cons, List.not_mem_nil, or_false] at hn
      omega
    refine ⟨⟨_, srcG_of_memory hm ht hf r, fun i hi j hj _ => ?_⟩,
      ⟨_, srcV_of_memory hm ht hf r, fun j => getLsbD_readBytes_of_ge s.mem d.addr, fun i => lane_readBytes s.mem d.addr hn⟩⟩
    have hbit : 8 * i + j < 8 * n := by omega
    rw [BitVec.getLsbD_setWidth, decide_eq_true hbit, Bool.true_and, getLsbD_readBytes s.mem d.addr hn hi hj]
    rfl
  · intro keeps
    have hkeeps {t : State} (h : ReadOf s t) : keeps t := by
      obtain ⟨e, rfl⟩ := h
      exact ⟨rfl, rfl, rfl, rfl, rfl, rfl, rfl, rfl, rfl⟩
    exact ⟨fun w v t h => hkeeps (.srcG h), fun L b t h => hkeeps (.srcV h), fun w as es t h => hkeeps (.readElements h)⟩

end Sys2Proof.Machine
end

section
/-! Deposit and extraction bit by bit (spec/40_primitives_flags_masking.md R147): the bits of the mask that are 1, in ascending
order, are paired with the bits of the packed value. -/

namespace Sys2Proof.Machine

/-- How many bits of the mask below bit `i` are 1: the place in the packed value that is paired with bit `i`. -/
abbrev maskRank {w : Nat} (m : BitVec w) (i : Nat) : Nat :=
  (List.range i).countP m.getLsbD

section
variable {w : Nat} (x m : BitVec w)

theorem maskRank_eq_count (i : Nat) : maskRank m i = Nat.count (fun j => m.getLsbD j = true) i := by
  simp [maskRank, Nat.count]

theorem maskRank_succ (i : Nat) : maskRank m (i + 1) = maskRank m i + if m.getLsbD i then 1 else 0 := by
  rw [maskRank_eq_count, maskRank_eq_count, Nat.count_succ]

theorem maskRank_le (i : Nat) : maskRank m i ≤ i := by
  rw [maskRank_eq_count]
  exact Nat.count_le _

/-- The ranks of the bits that are 1 rise with the bits. -/
theorem maskRank_lt_of_lt {m : BitVec w} {i n : Nat} (hbit : m.getLsbD i = true) (h : i < n) :
    maskRank m i < maskRank m n := by
  rw [maskRank_eq_count, maskRank_eq_count]
  exact Nat.count_strict_mono hbit h

/-- Every place of the packed value below the number of ones is paired with a bit that is 1. -/
theorem exists_maskRank_eq {m : BitVec w} {j n : Nat} (h : j < maskRank m n) :
    ∃ i < n, m.getLsbD i = true ∧ maskRank m i = j := by
  rw [maskRank_eq_count] at h
  have hcard := fun hf => h.trans_le (Nat.count_le_card hf n)
  exact ⟨_, Nat.nth_lt_of_lt_count h, Nat.nth_mem j hcard, (maskRank_eq_count m _).trans (Nat.count_nth hcard)⟩

/-- One bit put at a place. -/
theorem getLsbD_ofBool_shiftLeft {p : Nat} (hp : p < w) (b : Bool) (j : Nat) :
    ((BitVec.ofBool b).setWidth w <<< p).getLsbD j = (decide (j = p) && b) := by
  rw [BitVec.getLsbD_shiftLeft, BitVec.getLsbD_setWidth, BitVec.getLsbD_ofBool]
  by_cases hj : j = p
  · subst hj
    simp [hp, Nat.zero_lt_of_lt hp]
  · by_cases hlt : j < p
    · simp [hj, hlt]
    · have hplace : j - p ≠ 0 := by omega
      simp [hj, hplace]

/-- A deposit's loop after `n` bits of the mask. -/
theorem pdep_loop {n : Nat} (hn : n ≤ w) :
    let acc := (List.range n).foldl (pdepStep x m) (0#w, 0)
    acc.2 = maskRank m n ∧
      ∀ i, acc.1.getLsbD i = (decide (i < n) && (m.getLsbD i && x.getLsbD (maskRank m i))) := by
  induction n with
  | zero => exact ⟨rfl, fun i => by simp⟩
  | succ n ih =>
    obtain ⟨hrank, hbits⟩ := ih (by omega)
    simp only [List.range_succ, List.foldl_append, List.foldl_cons, List.foldl_nil, pdepStep, maskRank_succ, hrank]
    cases hbit : m.getLsbD n
    · refine ⟨hrank, fun i => ?_⟩
      by_cases hi : i = n
      · subst hi; simp [hbits, hbit]
      · simp [hbits, show i < n + 1 ↔ i < n by omega]
    · refine ⟨rfl, fun i => ?_⟩
      simp only [if_true, BitVec.getLsbD_or, hbits, getLsbD_ofBool_shiftLeft (show n < w by omega)]
      by_cases hi : i = n
      · subst hi; simp [hbit]
      · simp [hi, show i < n + 1 ↔ i < n by omega]

/-- An extraction's loop after `n` bits of the mask. -/
theorem pext_loop {n : Nat} (hn : n ≤ w) :
    let acc := (List.range n).foldl (pextStep x m) (0#w, 0)
    acc.2 = maskRank m n ∧ (∀ i < n, m.getLsbD i = true → acc.1.getLsbD (maskRank m i) = x.getLsbD i) ∧
      ∀ j, maskRank m n ≤ j → acc.1.getLsbD j = false := by
  induction n with
  | zero => exact ⟨rfl, nofun, fun j _ => BitVec.getLsbD_zero⟩
  | succ n ih =>
    obtain ⟨hrank, hbits, hzero⟩ := ih (by omega)
    simp only [List.range_succ, List.foldl_append, List.foldl_cons, List.foldl_nil, pextStep, maskRank_succ, hrank]
    cases hbit : m.getLsbD n
    · refine ⟨hrank, fun i hi hone => hbits i ?_ hone, hzero⟩
      rcases Nat.lt_succ_iff_lt_or_eq.1 hi with hlt | rfl
      · exact hlt
      · rw [hbit] at hone; cases hone
    · have hplace : maskRank m n < w := (maskRank_le m n).trans_lt (by omega)
      refine ⟨rfl, fun i hi hone => ?_, fun j hj => ?_⟩
      · simp only [if_true, BitVec.getLsbD_or, getLsbD_ofBool_shiftLeft hplace]
        rcases Nat.lt_succ_iff_lt_or_eq.1 hi with hlt | rfl
        · simp [hbits i hlt hone, (maskRank_lt_of_lt hone hlt).ne]
        · simp [hzero _ le_rfl]
      · have hj : maskRank m n + 1 ≤ j := hj
        simp only [if_true, BitVec.getLsbD_or, getLsbD_ofBool_shiftLeft hplace, hzero j (by omega)]
        simp [show j ≠ maskRank m n by omega]

theorem getLsbD_pdep {i : Nat} (hi : i < w) :
    (pdep x m).getLsbD i = (m.getLsbD i && x.getLsbD (maskRank m i)) := by
  obtain ⟨-, hbits⟩ := pdep_loop x m le_rfl
  rw [pdep, hbits, decide_eq_true hi, Bool.true_and]

theorem getLsbD_pext_maskRank {i : Nat} (hi : i < w) (hone : m.getLsbD i = true) :
    (pext x m).getLsbD (maskRank m i) = x.getLsbD i := by
  obtain ⟨-, hbits, -⟩ := pext_loop x m le_rfl
  exact hbits i hi hone

theorem getLsbD_pext_of_le {j : Nat} (hj : popcnt m ≤ j) : (pext x m).getLsbD j = false := by
  obtain ⟨-, -, hzero⟩ := pext_loop x m le_rfl
  exact hzero j hj

/-- The bits of an extraction below the number of ones come from the bits of the mask that are 1. -/
theorem pext_pdep : pext (pdep x m) m = x &&& lowOnes w (popcnt m) := by
  refine BitVec.eq_of_getLsbD_eq fun j hj => ?_
  rw [BitVec.getLsbD_and, getLsbD_lowOnes, decide_eq_true hj, Bool.true_and]
  by_cases hlow : j < popcnt m
  · obtain ⟨i, hi, hone, rfl⟩ := exists_maskRank_eq hlow
    rw [getLsbD_pext_maskRank _ _ hi hone, getLsbD_pdep _ _ hi, hone, Bool.true_and, decide_eq_true hlow, Bool.and_true]
  · rw [getLsbD_pext_of_le _ _ (not_lt.1 hlow), decide_eq_false hlow, Bool.and_false]

end

/-- Settles O20: each loop pairs the bits of the mask that are 1 with the low bits of the packed value. -/
theorem extractUndoesDeposit : Obligations.ExtractUndoesDeposit :=
  fun _ x m => ⟨fun _ => getLsbD_pdep x m, fun _ => getLsbD_pext_maskRank x m, fun _ => getLsbD_pext_of_le x m, pext_pdep x m⟩

end Sys2Proof.Machine
end

section
/-! Masked writes of a vector register (spec/40_primitives_flags_masking.md R172, R173), element by element. -/

namespace Sys2Proof.Machine

/-! Elements of packed values. -/

theorem lane_highBits {w L i : Nat} (v : Packed) (h : w * i + w ≤ L) : lane w (highBits L v) i = 0#w := by
  refine BitVec.eq_of_getLsbD_eq fun j hj => ?_
  rw [getLsbD_lane, getLsbD_highBits, decide_eq_true (by omega : w * i + j < L), BitVec.getLsbD_zero, Bool.not_true,
    Bool.and_false, Bool.and_false]

theorem lane_or (w : Nat) (a b : Packed) (i : Nat) : lane w (a ||| b) i = lane w a i ||| lane w b i :=
  BitVec.extractLsb'_or

theorem lane_and (w : Nat) (a b : Packed) (i : Nat) : lane w (a &&& b) i = lane w a i &&& lane w b i :=
  BitVec.extractLsb'_and

theorem lane_xor (w : Nat) (a b : Packed) (i : Nat) : lane w (a ^^^ b) i = lane w a i ^^^ lane w b i :=
  BitVec.extractLsb'_xor

theorem lane_not {w i : Nat} (v : Packed) (h : w * i + w ≤ 512) : lane w (~~~ v) i = ~~~ lane w v i := by
  refine BitVec.eq_of_getLsbD_eq fun j hj => ?_
  have hbit : w * i + j < 512 := by omega
  simp only [getLsbD_lane, BitVec.getLsbD_not, hj, hbit, decide_true, Bool.true_and]

/-- The last bit of an element that lies below `L`. -/
theorem lane_end_le {w L i : Nat} (hi : i < L / w) : w * i + w ≤ L :=
  calc w * i + w = w * (i + 1) := by ring
    _ ≤ w * (L / w) := Nat.mul_le_mul_left w hi
    _ ≤ L := Nat.mul_div_le L w

/-! What a masked write puts into the register. -/

section
variable {w L : Nat}

/-- R173: a selected element is the result's, another one the old one's or 0. -/
theorem lane_maskedValue (hw : 0 < w) (hL : L ≤ 512) (up : MergeUpper) (st : MaskState) (k : Word) (res old : Packed)
    {i : Nat} (hi : i < L / w) :
    lane w (maskedValue up st w L k res old) i =
      match st with
      | .unmasked => lane w res i
      | .zeroMasked => if k.getLsbD i then lane w res i else 0#w
      | .mergeMasked => if k.getLsbD i then lane w res i else lane w old i := by
  have hmerge : lane w (packLanes w (fun i => if k.getLsbD i then lane w res i else lane w old i) (L / w)) i =
      if k.getLsbD i then lane w res i else lane w old i :=
    lane_packLanes hw _ hi ((Nat.mul_div_le L w).trans hL)
  cases st with
  | unmasked => exact lane_lowBits res (lane_end_le hi)
  | zeroMasked => exact lane_zeroMasked hw up k res old hi hL
  | mergeMasked =>
    cases up with
    | zero => exact hmerge
    | preserve => exact (lane_or _ _ _ _).trans (by rw [lane_highBits old (lane_end_le hi), hmerge, BitVec.zero_or])

/-- R173: above the vector length there is the old register under a merge that preserves it, else 0. -/
theorem getLsbD_maskedValue_of_ge (hw : 0 < w) (up : MergeUpper) (st : MaskState) (k : Word) (res old : Packed) {j : Nat}
    (hj : L ≤ j) :
    (maskedValue up st w L k res old).getLsbD j =
      (decide (st = .mergeMasked) && decide (up = .preserve) && old.getLsbD j) := by
  have hpack (f : Nat → BitVec w) : (packLanes w f (L / w)).getLsbD j = false := by
    have hbeyond : ¬ j < w * (L / w) := not_lt.2 ((Nat.mul_div_le L w).trans hj)
    rw [getLsbD_packLanes hw, decide_eq_false hbeyond, Bool.false_and, Bool.false_and]
  cases st with
  | unmasked => simp [maskedValue, getLsbD_lowBits, hj]
  | zeroMasked => simp [maskedValue, hpack]
  | mergeMasked => cases up <;> simp [maskedValue, hpack, getLsbD_highBits, hj]

end

/-! The mask of a descriptor. -/

/-- R172: below the number of elements the mask bits are the statements' selection. -/
theorem getLsbD_maskBits (s : State) (d : Desc) {n i : Nat} (hi : i < n) (hn : n ≤ 64) :
    (s.maskBits d n).getLsbD i = selects s d i := by
  have hones : (lowOnes 64 n).getLsbD i = true := by
    rw [getLsbD_lowOnes, decide_eq_true (hi.trans_le hn), decide_eq_true hi, Bool.and_self]
  unfold State.maskBits selects
  split
  · rename_i hmask
    rw [hones, decide_eq_true hmask, Bool.true_or]
  · rename_i hmask
    rw [BitVec.getLsbD_and, hones, decide_eq_false hmask, Bool.and_true, Bool.false_or]

theorem maskState_eq_mergeMasked_iff (d : Desc) : d.maskState = .mergeMasked ↔ d.opmask ≠ 0#3 ∧ d.zmask = false := by
  unfold Desc.maskState
  split
  · simp [*]
  · split <;> simp [*]

/-- R173: a masked write, as the statements say it. `s₁` is what an operand read of `s` left. -/
theorem maskedResult_maskedWrite {w : Nat} {s s₁ : State} {d : Desc} (hw : 8 ≤ w) (hL : d.vlBits ≤ 512)
    (hread : LapicOnly s s₁) (v : Packed) :
    MaskedResult s ((s₁.maskedWrite w v d).advance d.ilen) d w (lane w v) := by
  have hpos : 0 < w := by omega
  have hcount : d.vlBits / w ≤ 64 := Nat.div_le_of_le_mul (by omega)
  have hvreg : ((s₁.maskedWrite w v d).advance d.ilen).vreg d.dst.toNat =
      maskedValue s.cfg.mergeUpper d.maskState w d.vlBits (s.maskBits d (d.vlBits / w)) v (s.vreg d.dst.toNat) := by
    have hmask : s₁.maskBits d (d.vlBits / w) = s.maskBits d (d.vlBits / w) := by
      simp only [State.maskBits, hread.kreg]
    rw [State.advance_vreg, State.maskedWrite, State.maskedWriteWith, State.vreg_setVreg, if_pos rfl, hread.cfg,
      hread.vreg, hmask]
  refine ⟨fun i hi => ?_, fun j _ hj => ?_⟩
  · rw [hvreg, lane_maskedValue hpos hL _ _ _ _ _ hi, getLsbD_maskBits s d hi hcount]
    unfold Desc.maskState
    by_cases hmask : d.opmask = 0#3
    · simp [hmask, selects]
    · cases hz : d.zmask <;> simp [hmask]
  · rw [hvreg, getLsbD_maskedValue_of_ge hpos _ _ _ _ _ hj]
    simp only [maskState_eq_mergeMasked_iff, Bool.decide_and]
    cases d.zmask <;> simp

end Sys2Proof.Machine
end

section
/-! The element-wise instructions of class V (spec/44_simd_int.md R246, R250 to R255, R258 to R261). -/

namespace Sys2Proof.Machine

/-! What a well-formed descriptor says of the vector length. -/

theorem shapeAt_vlMax_le (id : Nat) : (shapeAt id).vlMax ≤ 2 := by
  unfold shapeAt
  dsimp only
  split
  · exact le_rfl
  · split <;> decide

/-- R113: the vector length is at most 512 bits. -/
theorem vlBits_le {i : Instr} (hwf : i.WellFormed) (hid : i.handlerId.toNat ≠ 0) : i.desc.vlBits ≤ 512 := by
  have hshape := ((wellFormed_iff i).1 hwf).resolve_left hid
  obtain ⟨-, -, hvl, -⟩ := malformed?_eq_none_iff.1 hshape
  calc 128 <<< i.desc.vl.toNat = 128 * 2 ^ i.desc.vl.toNat := Nat.shiftLeft_eq _ _
    _ ≤ 128 * 2 ^ 2 := Nat.mul_le_mul_left _ (Nat.pow_le_pow_right (by decide) (hvl.trans (shapeAt_vlMax_le _)))

/-- The instruction that `make` builds runs `body` under the handler contract, with the roles and the feature of its own
row. -/
def Runs (make : Desc → Instr) (body : Desc → State → Access Unit) : Prop :=
  ∀ d, (make d).desc = d ∧ ∃ sh, (make d).shape = some sh ∧
    ∀ s, exec (make d) s = runHandler sh (make d).featureNeed body d s

section
variable {make : Desc → Instr} {body : Desc → State → Access Unit} {d : Desc} {s : State}

/-- R180: an instruction that the machine runs does what its body does. -/
theorem Runs.exec_eq (hruns : Runs make body) (hready : Ready s (make d)) : exec (make d) s = (body d s).finish d := by
  obtain ⟨hwf, hfeature⟩ := hready
  obtain ⟨hdesc, sh, hshape, hexec⟩ := hruns d
  rw [Instr.WellFormed, Instr.malformed?, hshape, hdesc] at hwf
  rw [Instr.enabled, hdesc] at hfeature
  rw [hexec, runHandler_ready hwf hfeature]

theorem Runs.vlBits_le (hruns : Runs make body) (hready : Ready s (make d)) : d.vlBits ≤ 512 := by
  obtain ⟨hwf, -⟩ := hready
  obtain ⟨hdesc, sh, hshape, -⟩ := hruns d
  have hid : (make d).handlerId.toNat ≠ 0 := by
    intro hid
    rw [shape_eq, if_pos hid] at hshape
    cases hshape
  have hle := Machine.vlBits_le hwf hid
  rwa [hdesc] at hle

end

/-- The frame of a handler that writes its destination in the vector file and no more. -/
theorem frame_setVreg (s : State) (d : Desc) (x : Packed) :
    Frame s ((s.setVreg d.dst.toNat x).advance d.ilen) d [] [d.dst.toNat] [] := by
  refine ⟨rfl, ⟨fun i _ _ => rfl, fun i hi hne => ?_, fun i _ _ => rfl⟩, fun _ => rfl,
    ⟨rfl, rfl, rfl, rfl, rfl, rfl, rfl, rfl, rfl, rfl⟩⟩
  have hcells : ¬ d.dst.toNat % 32 = i % 32 := by
    rw [Nat.mod_eq_of_lt d.dst.isLt, Nat.mod_eq_of_lt hi]
    exact fun h => hne (by rw [h]; exact List.mem_singleton_self i)
  rw [State.advance_vreg, State.vreg_setVreg, if_neg hcells]

/-- R246: a handler that reads its second source and writes `val` under the mask. -/
theorem vecResult_of_maskedWrite {w : Nat} (hw : 8 ≤ w) {make : Desc → Instr} {body : Desc → State → Access Unit}
    {val : Desc → State → Packed → Packed} {res : Elements w} (hruns : Runs make body)
    (hbody : ∀ d s, body d s = (s.srcV d.vlBits d d.src2).bind fun b s₁ => .ok () (s₁.maskedWrite w (val d s b) d))
    (hres : ∀ d s b, d.vlBits ≤ 512 → ∀ i < d.vlBits / w, lane w (val d s b) i = res d s b i) :
    VecResult make res := by
  intro d s s₁ b hready hsrc
  have hL := hruns.vlBits_le hready
  refine ⟨(s₁.maskedWrite w (val d s b) d).advance d.ilen, ?_, ?_, ⟨rfl, rfl⟩, frame_setVreg s₁ d _⟩
  · rw [hruns.exec_eq hready, hbody, hsrc, Access.bind_ok, Access.finish_ok]
  · obtain ⟨hlanes, hupper⟩ := maskedResult_maskedWrite hw hL (.srcV hsrc) (val d s b)
    exact ⟨fun i hi => by rw [hlanes i hi, hres d s b hL i hi], hupper⟩

/-! Operations element by element. -/

/-- The operation is `f` on each pair of elements. -/
def LaneWise (w : Nat) (op : PackedOp) (f : BitVec w → BitVec w → BitVec w) : Prop :=
  ∀ (L : Nat) (a b : Packed) (i : Nat), L ≤ 512 → i < L / w → lane w (op L a b) i = f (lane w a i) (lane w b i)

theorem laneWise_map2 {w : Nat} (hw : 0 < w) {f g : BitVec w → BitVec w → BitVec w} (hfg : ∀ a b, f a b = g a b) :
    LaneWise w (map2 w f) g :=
  fun _ a b _ hL hi => (lane_map2 hw f a b hi hL).trans (hfg _ _)

theorem laneWise_andP (w : Nat) : LaneWise w andP (· &&& ·) := fun _ a b i _ _ => lane_and w a b i
theorem laneWise_orP (w : Nat) : LaneWise w orP (· ||| ·) := fun _ a b i _ _ => lane_or w a b i
theorem laneWise_xorP (w : Nat) : LaneWise w xorP (· ^^^ ·) := fun _ a b i _ _ => lane_xor w a b i
theorem laneWise_andnP (w : Nat) : LaneWise w andnP (fun a b => ~~~ a &&& b) := fun _ a b i hL hi => by
  rw [andnP, lane_and, lane_not a ((lane_end_le hi).trans hL)]

theorem addL_eq {w : Nat} (a b : BitVec w) : addL a b = a + b := rfl
theorem subL_eq {w : Nat} (a b : BitVec w) : subL a b = a - b := rfl

/-- R154: where the operands are equal it does not matter which one a minimum or a maximum is. -/
theorem minsL_eq {w : Nat} (a b : BitVec w) : minsL a b = if a.slt b then a else b := by
  unfold minsL
  simp only [BitVec.slt, decide_eq_true_eq]
  rcases lt_trichotomy a.toInt b.toInt with h | h | h
  · simp [h, h.le]
  · rw [BitVec.toInt_inj.1 h]; simp
  · simp [not_le.2 h, not_lt.2 h.le]

theorem maxsL_eq {w : Nat} (a b : BitVec w) : maxsL a b = if a.slt b then b else a := by
  unfold maxsL
  simp only [BitVec.slt, decide_eq_true_eq]
  by_cases h : a.toInt < b.toInt
  · simp [h]
  · simp [h, not_lt.1 h]

theorem minuL_eq {w : Nat} (a b : BitVec w) : minuL a b = if a.ult b then a else b := by
  unfold minuL
  simp only [BitVec.ult, decide_eq_true_eq]
  rcases lt_trichotomy a.toNat b.toNat with h | h | h
  · simp [h, h.le]
  · rw [BitVec.toNat_inj.1 h]; simp
  · simp [not_le.2 h, not_lt.2 h.le]

theorem maxuL_eq {w : Nat} (a b : BitVec w) : maxuL a b = if a.ult b then b else a := by
  unfold maxuL
  simp only [BitVec.ult, decide_eq_true_eq]
  by_cases h : a.toNat < b.toNat
  · simp [h]
  · simp [h, not_lt.1 h]

/-- R246: a handler of two operands whose operation is element-wise. -/
theorem vecResult_of_laneWise {w : Nat} (hw : 8 ≤ w) {make : Desc → Instr} {op : PackedOp}
    {f : BitVec w → BitVec w → BitVec w} (hop : LaneWise w op f) (hruns : Runs make (vecBinary w op)) :
    VecResult make (pairwise Desc.src1 f) := by
  refine vecResult_of_maskedWrite hw hruns (fun _ _ => rfl) fun d s b hL i hi => ?_
  rw [hop _ _ _ i hL hi, lane_lowBits _ (lane_end_le hi)]
  rfl

theorem vecResult_map2 {w : Nat} (hw : 8 ≤ w) {make : Desc → Instr} {f g : BitVec w → BitVec w → BitVec w}
    (hfg : ∀ a b, f a b = g a b) (hruns : Runs make (vecBinary w (map2 w f))) : VecResult make (pairwise Desc.src1 g) :=
  vecResult_of_laneWise hw (laneWise_map2 (by omega) hfg) hruns

/-- Settles O25: each handler reads its second source and writes an element-wise operation under the mask. -/
theorem vectorElementwise : Obligations.VectorElementwise := by
  unfold Obligations.VectorElementwise
  intro both
  have h8 : 8 ≤ 8 := by decide
  have h16 : 8 ≤ 16 := by decide
  have h32 : 8 ≤ 32 := by decide
  have h64 : 8 ≤ 64 := by decide
  refine ⟨⟨vecResult_map2 h8 addL_eq ?_, vecResult_map2 h16 addL_eq ?_, vecResult_map2 h32 addL_eq ?_,
      vecResult_map2 h64 addL_eq ?_, vecResult_map2 h8 subL_eq ?_, vecResult_map2 h16 subL_eq ?_,
      vecResult_map2 h32 subL_eq ?_, vecResult_map2 h64 subL_eq ?_⟩,
    ⟨vecResult_of_laneWise h32 (laneWise_andP _) ?_, vecResult_of_laneWise h64 (laneWise_andP _) ?_,
      vecResult_of_laneWise h32 (laneWise_andnP _) ?_, vecResult_of_laneWise h64 (laneWise_andnP _) ?_,
      vecResult_of_laneWise h32 (laneWise_orP _) ?_, vecResult_of_laneWise h64 (laneWise_orP _) ?_,
      vecResult_of_laneWise h32 (laneWise_xorP _) ?_, vecResult_of_laneWise h64 (laneWise_xorP _) ?_⟩,
    ⟨vecResult_map2 h8 minsL_eq ?_, vecResult_map2 h16 minsL_eq ?_, vecResult_map2 h32 minsL_eq ?_,
      vecResult_map2 h64 minsL_eq ?_, vecResult_map2 h8 maxsL_eq ?_, vecResult_map2 h16 maxsL_eq ?_,
      vecResult_map2 h32 maxsL_eq ?_, vecResult_map2 h64 maxsL_eq ?_⟩,
    vecResult_map2 h8 minuL_eq ?_, vecResult_map2 h16 minuL_eq ?_, vecResult_map2 h32 minuL_eq ?_,
    vecResult_map2 h64 minuL_eq ?_, vecResult_map2 h8 maxuL_eq ?_, vecResult_map2 h16 maxuL_eq ?_,
    vecResult_map2 h32 maxuL_eq ?_, vecResult_map2 h64 maxuL_eq ?_⟩
  all_goals exact fun _ => ⟨rfl, _, rfl, fun _ => rfl⟩

end Sys2Proof.Machine
end

section
/-! A store in the window is a sequence of operations of the LAPICs (spec/20_memory.md R90, spec/60_exceptions.md R360, R375
to R385), so that what one operation keeps, the store keeps. -/

namespace Sys2Proof.Machine

/-- One operation of a LAPIC, the one in focus or another. -/
inductive LapicStep : State → State → Prop where
  | putLapic (s : State) (r : LapicEff) : LapicStep s (s.putLapic r)
  | onLapic (s : State) (i : Nat) (f : Lapic → LapicEff) : LapicStep s (s.onLapic i f)

/-- Operations of LAPICs, one after another. -/
abbrev LapicSteps : State → State → Prop :=
  Relation.ReflTransGen LapicStep

namespace LapicSteps
variable {s t : State}

theorem putLapic (s : State) (r : LapicEff) : LapicSteps s (s.putLapic r) :=
  .single (.putLapic s r)

theorem deliver (s : State) (dm : BitVec 3) (vec : BitVec 8) (trig : Trigger) (i : Nat) :
    LapicSteps s (s.deliver dm vec trig i) :=
  .single (.onLapic s i _)

theorem deliverAll (s : State) (dm : BitVec 3) (vec : BitVec 8) (trig : Trigger) (is : List Nat) :
    LapicSteps s (s.deliverAll dm vec trig is) := by
  unfold State.deliverAll
  induction is generalizing s with
  | nil => exact .refl
  | cons i is ih => exact (deliver s dm vec trig i).trans (ih _)

theorem deliverLowest (s : State) (is : List Nat) (vec : BitVec 8) (trig : Trigger) :
    LapicSteps s (s.deliverLowest is vec trig).2 := by
  unfold State.deliverLowest
  split
  · exact .refl
  · exact deliver _ _ _ _ _

theorem busBroadcast (s : State) (dm : BitVec 3) (trig : Trigger) (vec : BitVec 8) (exclude : Option Nat) :
    LapicSteps s (s.busBroadcast dm trig vec exclude).2 := by
  unfold State.busBroadcast
  dsimp only
  split
  · exact deliverLowest _ _ _ _
  · exact deliverAll _ _ _ _ _

theorem deliverLogical (s : State) (dest : BitVec 32) (dm : BitVec 3) (trig : Trigger) (vec : BitVec 8) :
    LapicSteps s (s.deliverLogical dest dm trig vec).2 := by
  unfold State.deliverLogical
  split
  · exact .refl
  · exact deliverAll _ _ _ _ _

theorem deliverPhysical (s : State) (x2 : Bool) (dest : BitVec 32) (dm : BitVec 3) (trig : Trigger) (vec : BitVec 8) :
    LapicSteps s (s.deliverPhysical x2 dest dm trig vec).2 := by
  unfold State.deliverPhysical
  split
  · exact busBroadcast _ _ _ _ _
  · split
    · exact .refl
    · exact deliver _ _ _ _ _

theorem busDeliver (s : State) (x2 : Bool) (dest : BitVec 32) (dm : BitVec 3) (logical : Bool) (trig : Trigger)
    (vec : BitVec 8) : LapicSteps s (s.busDeliver x2 dest dm logical trig vec).2 := by
  unfold State.busDeliver
  split
  · split
    · exact deliverLowest _ _ _ _
    · exact .refl
  · split
    · exact deliverLogical _ _ _ _ _
    · exact deliverPhysical _ _ _ _ _ _

theorem route (s : State) (dest lo : BitVec 32) : LapicSteps s (s.route dest lo).2 := by
  unfold State.route
  dsimp only
  split
  · exact busDeliver _ _ _ _ _ _ _
  · exact putLapic _ _
  · exact busBroadcast _ _ _ _ _
  · exact busBroadcast _ _ _ _ _

theorem sendIpi (s : State) (dest lo : BitVec 32) : LapicSteps s (s.sendIpi dest lo) := by
  unfold State.sendIpi
  dsimp only
  split
  · exact .refl
  · split
    · exact route _ _ _
    · exact (route s dest lo).trans (putLapic _ _)

theorem writeIcrLo (s : State) (value : BitVec 32) : LapicSteps s (s.writeIcrLo value) :=
  (putLapic s _).trans (sendIpi _ _ _)

theorem putChecked {r : Except Invariant LapicEff} (h : s.putChecked r = .ok t) : LapicSteps s t := by
  cases r with
  | ok e => cases h; exact putLapic s e
  | error i => cases h

theorem putQuiet {l : Lapic} (h : s.putQuiet l = .ok t) : LapicSteps s t := by
  cases h; exact putLapic s _

theorem mmioWrite {slot : BitVec 8} {value : BitVec 32} (h : s.mmioWrite slot value = .ok t) : LapicSteps s t := by
  unfold State.mmioWrite at h
  cases hreg : apicReg slot <;> rw [hreg] at h <;> dsimp only at h
  case ldr | dfr | svr | esr | lvt | lvtTimer | icrHi | timerInitial | timerDivide => exact putQuiet h
  case eoi => exact putChecked h
  case icrLo => cases h; exact writeIcrLo s _
  case tpr | selfIpi | undefined => cases h; exact putLapic s _
  case extFeature =>
    split at h <;> cases h
    · exact .refl
    · exact putLapic s _
  case extControl =>
    split at h
    · exact putQuiet h
    · cases h; exact putLapic s _
  case seoi =>
    split at h
    · split at h <;> cases h
      · exact putLapic s _
      · exact .refl
    · cases h; exact putLapic s _
  case ier =>
    split at h
    · split at h
      · exact putQuiet h
      · cases h; exact .refl
    · cases h; exact putLapic s _
  all_goals cases h; exact .refl

end LapicSteps

end Sys2Proof.Machine
end

section
/-! How part of a handler may end, and what a fault signal leaves (spec/40_primitives_flags_masking.md R180,
spec/60_exceptions.md R351). -/

namespace Sys2Proof.Machine

/-! No fault signal has left the block. -/

/-- What has left the block between `s` and `t` is no fault signal. -/
def NoSignal (s t : State) : Prop :=
  ∃ outputs : List Output, t.trace = s.trace ++ outputs ∧ ∀ c g, Output.fault c g ∉ outputs

theorem NoSignal.of_trace_eq {s t : State} (h : t.trace = s.trace) : NoSignal s t :=
  ⟨[], by rw [h, List.append_nil], fun _ _ => List.not_mem_nil⟩

theorem NoSignal.refl (s : State) : NoSignal s s := .of_trace_eq rfl

theorem NoSignal.trans {s t u : State} (h : NoSignal s t) (k : NoSignal t u) : NoSignal s u := by
  obtain ⟨xs, hxs, hno⟩ := h
  obtain ⟨ys, hys, kno⟩ := k
  refine ⟨xs ++ ys, by rw [hys, hxs, List.append_assoc], fun c g hmem => ?_⟩
  exact (List.mem_append.1 hmem).elim (hno c g) (kno c g)

/-- The calls of a LAPIC are no fault signals. -/
theorem NoSignal.of_calls {s t : State} {i : Nat} {calls : List LapicEvent}
    (h : t.trace = s.trace ++ calls.map (Output.lapic i)) : NoSignal s t :=
  ⟨_, h, fun c g hmem => by simp at hmem⟩

theorem trace_setLapicAt (s : State) (i : Nat) (l : Lapic) : (s.setLapicAt i l).trace = s.trace := by
  unfold State.setLapicAt
  split_ifs <;> rfl

theorem NoSignal.onLapic (s : State) (i : Nat) (f : Lapic → LapicEff) : NoSignal s (s.onLapic i f) := by
  unfold State.onLapic
  split
  · exact .refl s
  · exact .of_calls (congrArg (· ++ _) (trace_setLapicAt s i _))

theorem NoSignal.of_lapicSteps {s t : State} (h : LapicSteps s t) : NoSignal s t := by
  induction h with
  | refl => exact .refl s
  | tail _ hstep ih =>
    refine ih.trans ?_
    cases hstep with
    | putLapic => exact .of_calls rfl
    | onLapic => exact .onLapic _ _ _

theorem NoSignal.of_readOf {s t : State} (h : ReadOf s t) : NoSignal s t := by
  obtain ⟨r, rfl⟩ := h
  exact .of_calls rfl

theorem NoSignal.writeFlags (s : State) (u : FlagUpdate) : NoSignal s (s.writeFlags u) := by
  obtain ⟨-, -, -, -, -, houtside⟩ := writeFlags_else s u
  exact .of_trace_eq houtside.trace

theorem NoSignal.setXFlags (s : State) {w : Nat} (i : BitVec 5) (v : BitVec w) (u : FlagUpdate) :
    NoSignal s ((s.setX i v).writeFlags u) :=
  (NoSignal.of_trace_eq rfl : NoSignal s (s.setX i v)).trans (.writeFlags _ u)

/-! Stores. -/

/-- `t` is `s` with stores made, in memory or in the window: no register of the EE is written, no signal is raised and the
focus does not move. -/
structure StoresOf (s t : State) : Prop where
  ee     : t.cpu.ee = s.cpu.ee
  focus  : t.focus = s.focus
  signal : NoSignal s t

theorem StoresOf.refl (s : State) : StoresOf s s := ⟨rfl, rfl, .refl s⟩

theorem StoresOf.trans {s t u : State} (h : StoresOf s t) (k : StoresOf t u) : StoresOf s u :=
  ⟨k.ee.trans h.ee, k.focus.trans h.focus, h.signal.trans k.signal⟩

theorem LapicOnly.focus {s t : State} (h : LapicOnly s t) : t.focus = s.focus := by
  simpa [State.focus] using congrArg List.length h.below

theorem StoresOf.memWrite {s t : State} {a : Word} {n : Nat} {v : Packed} (h : s.memWrite a n v = .ok () t) :
    StoresOf s t := by
  obtain ⟨-, -, rfl⟩ | ⟨slot, -, hmmio⟩ := memWrite_ok h
  · exact ⟨rfl, rfl, .of_trace_eq rfl⟩
  · have hkeep := LapicOnly.mmioWrite hmmio
    exact ⟨hkeep.ee, hkeep.focus, .of_lapicSteps (.mmioWrite hmmio)⟩

/-- Where a signal leaves the machine: where the handler began, or, among element stores, after the stores before it
(R89). -/
def SignalLeaves (elementwise : Bool) (s t : State) : Prop :=
  if elementwise then StoresOf s t else t = s

theorem SignalLeaves.refl (elementwise : Bool) (s : State) : SignalLeaves elementwise s s := by
  cases elementwise with
  | true => exact StoresOf.refl s
  | false => exact Eq.refl s

theorem SignalLeaves.storesOf {elementwise : Bool} {s t : State} (h : SignalLeaves elementwise s t) : StoresOf s t := by
  cases elementwise with
  | true => exact h
  | false => cases h; exact .refl s

/-- How part of a handler begun in `s` may end: it goes on and has raised no signal, or a signal leaves the machine as
`SignalLeaves` says. -/
def Access.Signals {α : Type} (elementwise : Bool) (s : State) : Access α → Prop
  | .ok _ t     => NoSignal s t
  | .raised _ t => SignalLeaves elementwise s t
  | .stopped _  => True

/-- What follows a store, seen from before the store. -/
theorem Access.Signals.after {α : Type} {s t : State} {r : Access α} (hr : r.Signals true t) (h : StoresOf s t) :
    r.Signals true s := by
  cases r with
  | ok v u => exact h.signal.trans hr
  | raised g u => exact h.trans hr
  | stopped i => trivial

theorem memWrite_signals (e : Bool) (s : State) (a : Word) (n : Nat) (v : Packed) : (s.memWrite a n v).Signals e s := by
  cases h : s.memWrite a n v with
  | ok _ t => exact (StoresOf.memWrite h).signal
  | raised g t => exact memWrite_raised h ▸ .refl e s
  | stopped i => trivial

/-- The stores made before a signal stay made. -/
theorem writeElements_signals (s : State) (w : Nat) (es : List (Word × BitVec w)) :
    (s.writeElements w es).Signals true s := by
  induction es generalizing s with
  | nil => exact NoSignal.refl s
  | cons e es ih =>
    unfold State.writeElements
    cases h : s.memWrite e.1 (w / 8) (e.2.setWidth 512) with
    | ok _ t => exact (ih t).after (.memWrite h)
    | raised g t => exact memWrite_raised h ▸ StoresOf.refl s
    | stopped i => trivial

/-! Reads, and the writes of registers that follow them. -/

/-- A part that only reads: a signal leaves the state as it was. -/
def Access.Reads {α : Type} (s : State) : Access α → Prop
  | .ok _ t     => ReadOf s t
  | .raised _ t => t = s
  | .stopped _  => True

/-- A part that goes on, and raises no signal. -/
def Access.Completes {α : Type} (s : State) : Access α → Prop
  | .ok _ t     => NoSignal s t
  | .raised _ _ => False
  | .stopped _  => False

theorem memRead_reads (s : State) (a : Word) (n : Nat) : (s.memRead a n).Reads s := by
  cases h : s.memRead a n with
  | ok v t => exact .memRead h
  | raised g t => exact memRead_raised h
  | stopped i => trivial

theorem readElements_reads (s : State) (w : Nat) (as : List Word) : (s.readElements w as).Reads s := by
  cases h : s.readElements w as with
  | ok v t => exact .readElements h
  | raised g t => exact readElements_raised h
  | stopped i => trivial

theorem Access.reads_map {α β : Type} {s : State} {r : Access α} (f : α → β) (h : r.Reads s) : (r.map f).Reads s := by
  cases r <;> exact h

theorem srcG_reads (s : State) (w : Nat) (d : Desc) (r : BitVec 5) : (s.srcG w d r).Reads s := by
  unfold State.srcG
  split
  · exact Access.reads_map _ (memRead_reads _ _ _)
  · exact ReadOf.refl s

theorem srcV_reads (s : State) (L : Nat) (d : Desc) (r : BitVec 5) : (s.srcV L d r).Reads s := by
  unfold State.srcV
  split
  · exact memRead_reads _ _ _
  · exact ReadOf.refl s

/-- R180: a part that reads and then writes registers raises its signal before it changes anything. -/
theorem Access.signals_read {α β : Type} {s : State} {r : Access α} {f : α → State → Access β} (hr : r.Reads s)
    (hf : ∀ v t, (f v t).Completes t) : (r.bind f).Signals false s := by
  cases r with
  | ok v t =>
    have hcompletes := hf v t
    change (f v t).Signals false s
    cases hfv : f v t <;> rw [hfv] at hcompletes
    case ok => exact (NoSignal.of_readOf hr).trans hcompletes
    all_goals cases hcompletes
  | raised g t => exact hr
  | stopped i => trivial

/-! A store at the address that was read (R88): where the read was of the window, the store is too, and raises no signal. -/

theorem Lapic.mmioRead_mode {cfg : Config} {now : Word} {slot : BitVec 8} {l : Lapic} {r : BitVec 32 × LapicEff}
    (h : l.mmioRead cfg now slot = .ok r) : r.2.1.mode = l.mode := by
  obtain hr | hr | hr := Lapic.mmioRead_cases h
  · rw [hr]
  · rw [hr]; rfl
  · unfold Lapic.currentCount violation at hr
    split_ifs at hr
    · cases hr; rfl
    · cases hr; rfl
    · cases hpolicy : cfg.invariantPolicy <;> rw [hpolicy] at hr <;> cases hr
      rfl
    · cases hr; rfl

/-- Where an access goes depends on the window's base and the mode alone. -/
theorem target_congr {s t : State} (hcfg : t.cfg = s.cfg) (hmode : t.cpu.lapic.mode = s.cpu.lapic.mode) (a : Word)
    (n : Nat) : t.target a n = s.target a n := by
  unfold State.target
  rw [hcfg, hmode]

theorem memWrite_raised_of_memRead {s s₁ t : State} {a : Word} {n : Nat} {b v : Packed} {g : FaultSignal}
    (hread : s.memRead a n = .ok b s₁) (hwrite : s₁.memWrite a n v = .raised g t) : t = s := by
  obtain ⟨-, -, rfl, -⟩ | ⟨slot, r, htarget, hr, -, rfl⟩ := memRead_ok hread
  · exact memWrite_raised hwrite
  · have htarget' : (s.putLapic r.2).target a n = .window slot :=
      (target_congr (State.putLapic_cfg s r.2) (Lapic.mmioRead_mode hr) a n).trans htarget
    simp only [State.memWrite, htarget'] at hwrite
    split at hwrite <;> cases hwrite

end Sys2Proof.Machine
end

section
/-! Fault signals are precise (spec/40_primitives_flags_masking.md R180, spec/60_exceptions.md R351, R358): a body reads
before it writes, and only the element stores of R89 go on storing after a store. -/

namespace Sys2Proof.Machine

/-! The bodies. -/

theorem bitTest_signals (w : Nat) (o : BitOffset) (new : BitVec w → Nat → Option (BitVec w)) (d : Desc) (s : State) :
    (bitTest w o new d s).Signals false s := by
  unfold bitTest State.bitBase
  dsimp only
  cases hm : d.memform with
  | false =>
    refine Access.signals_read (ReadOf.refl s) fun base s₁ => ?_
    split
    · exact .writeFlags _ _
    · exact .setXFlags _ _ _ _
  | true =>
    rw [if_pos rfl]
    cases hread : s.memRead (s.bitAddress w o d) (w / 8) with
    | raised g t => exact memRead_raised hread
    | stopped i => trivial
    | ok b s₁ =>
      have hsignal := NoSignal.of_readOf (.memRead hread)
      rw [Access.map_ok, Access.bind_ok]
      split
      · exact hsignal.trans (.writeFlags _ _)
      · rename_i v _
        rw [if_pos rfl]
        cases hwrite : s₁.memWrite (s.bitAddress w o d) (w / 8) (v.setWidth 512) with
        | ok _ s₂ => exact hsignal.trans ((StoresOf.memWrite hwrite).signal.trans (.writeFlags _ _))
        | raised g t => exact memWrite_raised_of_memRead hread hwrite
        | stopped i => trivial

theorem bitScan_signals (w : Nat) (index : BitVec w → Nat) (d : Desc) (s : State) :
    (bitScan w index d s).Signals false s := by
  refine Access.signals_read (srcG_reads _ _ _ _) fun src s₁ => ?_
  split
  · exact .writeFlags _ _
  · exact .setXFlags _ _ _ _

theorem bzhi_signals (w : Nat) (d : Desc) (s : State) : (bzhiBody w d s).Signals false s := by
  refine Access.signals_read (srcG_reads _ _ _ _) fun v s₁ => ?_
  dsimp only
  split
  · exact .setXFlags _ _ _ _
  · exact .setXFlags _ _ _ _

theorem vmovdquLoad_signals (w : Nat) (d : Desc) (s : State) : (vmovdquLoad w d s).Signals false s := by
  unfold vmovdquLoad
  split
  · exact Access.signals_read (readElements_reads _ _ _) fun _ _ => .of_trace_eq rfl
  · exact Access.signals_read (srcV_reads _ _ _ _) fun _ _ => .of_trace_eq rfl

theorem expand_signals (w : Nat) (d : Desc) (s : State) : (expandBody w d s).Signals false s := by
  unfold expandBody
  dsimp only
  split
  · exact Access.signals_read (readElements_reads _ _ _) fun _ _ => .of_trace_eq rfl
  · exact Access.signals_read (srcV_reads _ _ _ _) fun _ _ => .of_trace_eq rfl

theorem vmovdquStore_signals (w : Nat) (d : Desc) (s : State) : (vmovdquStore w d s).Signals true s := by
  unfold vmovdquStore
  dsimp only
  split
  · exact memWrite_signals _ _ _ _ _
  · exact writeElements_signals _ _ _

theorem compress_signals (w : Nat) (d : Desc) (s : State) : (compressBody w d s).Signals true s := by
  unfold compressBody
  dsimp only
  split
  · exact writeElements_signals _ _ _
  · exact NoSignal.of_trace_eq rfl

/-- The bodies of the handlers (steps 4 to 7 of R180), by whether they store element by element (R89). -/
inductive BodyStores : Bool → (Desc → State → Access Unit) → Prop where
  | bitTest (w : Nat) (o : BitOffset) (new : BitVec w → Nat → Option (BitVec w)) : BodyStores false (bitTest w o new)
  | bitScan (w : Nat) (index : BitVec w → Nat) : BodyStores false (bitScan w index)
  | popcnt (w : Nat) : BodyStores false (popcntBody w)
  | count (w : Nat) (f : BitVec w → Nat) : BodyStores false (countBody w f)
  | andn (w : Nat) : BodyStores false (andnBody w)
  | bextr (w : Nat) : BodyStores false (bextrBody w)
  | source (w : Nat) (f : BitVec w → BitVec w) (cf : BitVec w → Bool) : BodyStores false (sourceBody w f cf)
  | bzhi (w : Nat) : BodyStores false (bzhiBody w)
  | mulx (w : Nat) : BodyStores false (mulxBody w)
  | deposit (w : Nat) (f : BitVec w → BitVec w → BitVec w) : BodyStores false (depositBody w f)
  | rorx (w : Nat) : BodyStores false (rorxBody w)
  | shift (w : Nat) (f : BitVec w → Nat → BitVec w) : BodyStores false (shiftBody w f)
  | bextri (w : Nat) : BodyStores false (bextriBody w)
  | sseBinary (op : PackedOp) : BodyStores false (sseBinary op)
  | sseShift (w : Nat) (f : BitVec w → Nat → BitVec w) : BodyStores false (sseShift w f)
  | pshufd : BodyStores false pshufdBody
  | movdquLoad : BodyStores false movdquLoad
  | movdquStore : BodyStores false movdquStore
  | vecBinary (w : Nat) (op : PackedOp) : BodyStores false (vecBinary w op)
  | vecCompare (op : PackedOp) : BodyStores false (vecCompare op)
  | vecShift (w : Nat) (f : BitVec w → Nat → BitVec w) : BodyStores false (vecShift w f)
  | vpshufd : BodyStores false vpshufdBody
  | vmovdquLoad (w : Nat) : BodyStores false (vmovdquLoad w)
  | maskCompare (w : Nat) (pred : BitVec 3 → BitVec w → BitVec w → Bool) : BodyStores false (maskCompare w pred)
  | expand (w : Nat) : BodyStores false (expandBody w)
  | valign (w : Nat) : BodyStores false (valignBody w)
  | kmovToMask (b : Nat) : BodyStores false (kmovToMask b)
  | kmovToGpr (b w : Nat) : BodyStores false (kmovToGpr b w)
  | xopCompare (w : Nat) (pred : BitVec 3 → BitVec w → BitVec w → Bool) : BodyStores false (xopCompare w pred)
  | xopTernary (f : Packed → Packed → Packed → Packed) : BodyStores false (xopTernary f)
  | vmovdquStore (w : Nat) : BodyStores true (vmovdquStore w)
  | compress (w : Nat) : BodyStores true (compressBody w)

/-- A body signals before it changes anything, but for stores of elements before the one that faults. -/
theorem BodyStores.signals {e : Bool} {body : Desc → State → Access Unit} (hbody : BodyStores e body) (d : Desc)
    (s : State) : (body d s).Signals e s := by
  cases hbody with
  | bitTest w o new => exact bitTest_signals w o new d s
  | bitScan w index => exact bitScan_signals w index d s
  | bzhi w => exact bzhi_signals w d s
  | popcnt | count | andn | bextr | source | bextri =>
    exact Access.signals_read (srcG_reads _ _ _ _) fun _ _ => .setXFlags _ _ _ _
  | mulx | deposit | rorx | shift =>
    exact Access.signals_read (srcG_reads _ _ _ _) fun _ _ => .of_trace_eq rfl
  | sseBinary | pshufd | movdquLoad | vecBinary | vecCompare | vecShift | vpshufd | valign | xopCompare | xopTernary |
      maskCompare =>
    exact Access.signals_read (srcV_reads _ _ _ _) fun _ _ => .of_trace_eq rfl
  | sseShift | kmovToMask | kmovToGpr => exact NoSignal.of_trace_eq rfl
  | movdquStore => exact memWrite_signals _ _ _ _ _
  | vmovdquLoad w => exact vmovdquLoad_signals w d s
  | expand w => exact expand_signals w d s
  | vmovdquStore w => exact vmovdquStore_signals w d s
  | compress w => exact compress_signals w d s

/-! The instructions. -/

/-- The handlers that store element by element: the VMOVDQU stores and VPCOMPRESS. -/
def storesElements (id : Nat) : Bool :=
  idIn id 0x140 0x143 || idIn id 0x188 0x18B

theorem BodyStores.of_eq {e e' : Bool} {body : Desc → State → Access Unit} (h : BodyStores e body) (he : e = e') :
    BodyStores e' body :=
  he ▸ h

/-- Every instruction but ILLEGAL runs a body that stores as its id says. -/
theorem exec_bodyStores (i : Instr) :
    (∃ d, i = .illegal d) ∨
      ∃ sh need body, BodyStores (storesElements i.handlerId.toNat) body ∧
        ∀ s, exec i s = runHandler sh need body i.desc s := by
  cases i
  case illegal d => exact .inl ⟨d, rfl⟩
  all_goals
    dsimp only [Instr.handlerId, BitVec.reduceToNat]
    refine .inr ⟨_, _, _, ?_, fun _ => rfl⟩
    apply BodyStores.of_eq
    · with_reducible constructor
    · rfl

/-- A step of the EE raises no signal, or ends in one signal, before which it has at most stored elements. -/
theorem exec_signals {i : Instr} {s t : State} (h : exec i s = .next t) :
    NoSignal s t ∨ ∃ g u, SignalLeaves (storesElements i.handlerId.toNat) s u ∧ t = u.raise g := by
  obtain ⟨d, rfl⟩ | ⟨sh, need, body, hbody, hexec⟩ := exec_bodyStores i
  · cases h; exact .inr ⟨_, s, .refl _ s, rfl⟩
  · have hsignals := hbody.signals i.desc s
    obtain rfl | ⟨g, u, hu, rfl⟩ | ⟨u, hu, rfl⟩ := runHandler_next (hexec s ▸ h)
    · exact .inr ⟨_, s, .refl _ s, rfl⟩
    · rw [hu] at hsignals
      exact .inr ⟨g, u, hsignals, rfl⟩
    · rw [hu] at hsignals
      exact .inl (NoSignal.trans hsignals (.of_trace_eq rfl))

/-- Settles O5: the signal is what ends the step, raised before any register is written and, but for element stores, before
anything else changes. -/
theorem faultSignalsArePrecise : Obligations.FaultSignalsArePrecise := by
  intro i s t c sig h hmem
  obtain ⟨outputs, htrace, hno⟩ | ⟨g, u, hleaves, rfl⟩ := exec_signals h
  · rw [htrace, List.drop_left] at hmem
    exact absurd hmem (hno c sig)
  · have hstores := hleaves.storesOf
    obtain ⟨outputs, htrace, hno⟩ := hstores.signal
    rw [State.raise_trace, htrace, List.append_assoc, List.drop_left, List.mem_append, List.mem_singleton] at hmem
    obtain ⟨hc, hsig⟩ := Output.fault.inj (hmem.resolve_left (hno c sig))
    subst hsig
    refine ⟨hc.trans hstores.focus, hstores.ee, fun hid => ?_⟩
    have hwhole : storesElements i.handlerId.toNat = false := by
      simp only [List.mem_cons, List.not_mem_nil, or_false, not_or] at hid
      simp only [storesElements, idIn, Bool.or_eq_false_iff, Bool.and_eq_false_iff, decide_eq_false_iff_not]
      omega
    rw [hwhole] at hleaves
    cases hleaves
    rw [hc]
    rfl

end Sys2Proof.Machine
end

section
/-! How a handler of the general-register classes completes (spec/40_primitives_flags_masking.md R150 to R153, R180): it has
read its operand, it writes at most one register, it updates the flags, and RIP moves past the instruction. -/

namespace Sys2Proof.Machine

/-! Flags. -/

/-- RFLAGS of `t` are those of `s` after the update `u`, as the statements say it. -/
abbrev FlagUpdate.Shown (u : FlagUpdate) (s t : State) : Prop :=
  FlagsAfter s t (u.cf.says (s.rflags.getLsbD 0)) (u.pf.says (s.rflags.getLsbD 2)) (u.af.says (s.rflags.getLsbD 4))
    (u.zf.says (s.rflags.getLsbD 6)) (u.sf.says (s.rflags.getLsbD 7)) (u.of_.says (s.rflags.getLsbD 11))

/-- The move of RIP is no flag update. -/
theorem FlagUpdate.Shown.advance {u : FlagUpdate} {s t : State} (h : u.Shown s t) (n : BitVec 4) :
    u.Shown s (t.advance n) :=
  ⟨h.cf, h.pf, h.af, h.zf, h.sf, h.of_, h.other⟩

/-! The frame. -/

theorem KeepsOutside.advance {s t : State} (h : KeepsOutside s t) (n : BitVec 4) : KeepsOutside s (t.advance n) :=
  ⟨h.lapic, h.features, h.apicId0, h.below, h.above, h.cfg, h.memFaults, h.now, h.inputs, h.trace⟩

/-- A handler that updates the flags writes no register and no memory by that. -/
theorem frame_writeFlags (s : State) (d : Desc) (u : FlagUpdate) :
    Frame s ((s.writeFlags u).advance d.ilen) d [] [] [] := by
  obtain ⟨hgpr, hvreg, hkreg, hrip, hmem, houtside⟩ := writeFlags_else s u
  exact ⟨congrArg (· + _) hrip, ⟨fun i _ _ => hgpr i, fun i _ _ => hvreg i, fun i _ _ => hkreg i⟩,
    fun a => congrArg (Memory.read · a.toNat) hmem, houtside.advance _⟩

/-- A frame of what follows a write of the destination register, seen from before that write. -/
theorem Frame.of_setX {s t : State} {d : Desc} {w : Nat} {v : BitVec w} (h : Frame (s.setX d.dst v) t d [] [] [])
    (hdst : d.dst.toNat < 16) : Frame s t d [d.dst.toNat] [] [] := by
  obtain ⟨hrip, ⟨hgpr, hvreg, hkreg⟩, hmemory, houtside⟩ := h
  refine ⟨hrip, ⟨fun i hi hne => ?_, hvreg, hkreg⟩, hmemory, ⟨houtside.lapic, houtside.features, houtside.apicId0,
    houtside.below, houtside.above, houtside.cfg, houtside.memFaults, houtside.now, houtside.inputs, houtside.trace⟩⟩
  have hcells : ¬ d.dst.toNat % 16 = i % 16 := by
    rw [Nat.mod_eq_of_lt hdst, Nat.mod_eq_of_lt hi]
    exact fun heq => hne (List.mem_singleton.2 heq.symm)
  rw [hgpr i hi List.not_mem_nil, State.setX, State.gpr_setGpr, if_neg hcells]

/-- Between the same registers of the EE every register is kept. -/
theorem KeepsRegisters.of_ee_eq {s t : State} (h : t.cpu.ee = s.cpu.ee) : KeepsRegisters s t [] [] [] :=
  .of_ee (.inr (congrArg Ee.gpr h)) (.inr (congrArg Ee.v h)) (.inr (congrArg Ee.k h))

theorem KeepsRegisters.trans {s t u : State} {gprs vregs kregs : List Nat} (h : KeepsRegisters s t gprs vregs kregs)
    (k : KeepsRegisters t u gprs vregs kregs) : KeepsRegisters s u gprs vregs kregs :=
  ⟨fun i hi hne => (k.gpr i hi hne).trans (h.gpr i hi hne), fun i hi hne => (k.vreg i hi hne).trans (h.vreg i hi hne),
    fun i hi hne => (k.kreg i hi hne).trans (h.kreg i hi hne)⟩

/-! The instructions. -/

/-- The instruction that `make` builds has the operand roles `sh` and runs `body`. -/
structure RunsAs (sh : Shape) (make : Desc → Instr) (body : Desc → State → Access Unit) : Prop where
  runs  : Runs make body
  shape : ∀ d, (make d).shape = some sh

section
variable {sh : Shape} {make : Desc → Instr} {body : Desc → State → Access Unit} {d : Desc} {s s₁ : State} {u : FlagUpdate}

theorem RunsAs.malformed?_eq_none (hruns : RunsAs sh make body) (hready : Ready s (make d)) : sh.malformed? d = none := by
  obtain ⟨hwf, -⟩ := hready
  obtain ⟨hdesc, -⟩ := hruns.runs d
  rwa [Instr.WellFormed, Instr.malformed?, hruns.shape, hdesc] at hwf

/-- R112: the destination of `OP r, r/m` is one of the sixteen general registers. -/
theorem RunsAs.dst_lt_of_gprUnary (hruns : RunsAs .gprUnary make body) (hready : Ready s (make d)) :
    d.dst.toNat < 16 :=
  dst_lt_of_gpr (hruns.malformed?_eq_none hready) rfl (Bool.and_false _)

/-- R180: a handler whose body leaves `s₁` with its flags updated; `s₁` has the registers and the parameters of `s`. -/
theorem Runs.exec_writeFlags (hruns : Runs make body) (hready : Ready s (make d)) (hee : s₁.cpu.ee = s.cpu.ee)
    (hcfg : s₁.cfg = s.cfg) (hbody : body d s = .ok () (s₁.writeFlags u)) :
    ∃ t, exec (make d) s = .next t ∧ u.Shown s t ∧ Frame s₁ t d [] [] [] := by
  refine ⟨(s₁.writeFlags u).advance d.ilen, ?_, ?_, frame_writeFlags s₁ d u⟩
  · rw [hruns.exec_eq hready, hbody, Access.finish_ok]
  · exact FlagUpdate.Shown.advance (flagsAfter_writeFlags u hcfg (congrArg Ee.rflags hee)) _

/-- R180: a handler whose body leaves `s₁` with `v` written to the destination and its flags updated. -/
theorem Runs.exec_setX_writeFlags {w : Nat} {v : BitVec w} (hruns : Runs make body) (hready : Ready s (make d))
    (hdst : d.dst.toNat < 16) (hread : LapicOnly s s₁) (hbody : body d s = .ok () ((s₁.setX d.dst v).writeFlags u)) :
    ∃ t, exec (make d) s = .next t ∧ t.gpr d.dst.toNat = mergeGpr w (s.gpr d.dst.toNat) v ∧ u.Shown s t ∧
      Frame s₁ t d [d.dst.toNat] [] [] := by
  refine ⟨((s₁.setX d.dst v).writeFlags u).advance d.ilen, ?_, ?_, ?_, (frame_writeFlags _ d u).of_setX hdst⟩
  · rw [hruns.exec_eq hready, hbody, Access.finish_ok]
  · obtain ⟨hgpr, -⟩ := writeFlags_else (s₁.setX d.dst v) u
    rw [State.advance_gpr, hgpr, gpr_setX_same, hread.gpr]
  · exact FlagUpdate.Shown.advance (flagsAfter_writeFlags (s' := s₁.setX d.dst v) u hread.cfg hread.rflags) _

end

/-! Stores. -/

theorem memWrite_cfg {s t : State} {a : Word} {n : Nat} {v : Packed} (h : s.memWrite a n v = .ok () t) :
    t.cfg = s.cfg := by
  obtain ⟨-, -, rfl⟩ | ⟨_, -, hmmio⟩ := memWrite_ok h
  · rfl
  · exact (LapicOnly.mmioWrite hmmio).cfg

/-- A byte of memory outside a store reads as it did, whether the store goes to memory or to the window. -/
theorem memWrite_byteAt_of_ne {s t : State} {a b : Word} {n : Nat} {v : Packed} (h : s.memWrite a n v = .ok () t)
    (hb : ∀ i < n, b ≠ a + BitVec.ofNat 64 i) : t.byteAt b = s.byteAt b := by
  obtain ⟨-, -, rfl⟩ | ⟨_, -, hmmio⟩ := memWrite_ok h
  · exact Memory.read_writeBytes_of_ne _ _ _ _ _ fun i hi heq => hb i hi (BitVec.eq_of_toNat_eq heq.symm)
  · exact (LapicOnly.mmioWrite hmmio).byteAt b

/-- A store to ordinary memory stores its bytes. -/
theorem memWrite_storedBytes {s t : State} {a : Word} {n : Nat} {v : Packed} (h : s.memWrite a n v = .ok () t)
    (hn : n ≤ 64) (ht : s.target a n = .memory) : StoredBytes s t a n v := by
  obtain ⟨-, -, rfl⟩ | ⟨_, hwindow, -⟩ := memWrite_ok h
  · exact storedBytes_writeBytes s a v hn
  · cases ht.symm.trans hwindow

theorem StoredBytes.of_keepsMemory {s t u : State} {a : Word} {n : Nat} {v : Packed} (h : StoredBytes s t a n v)
    (k : KeepsMemory t u) : StoredBytes s u a n v := by
  obtain ⟨hstored, hkept⟩ := h
  exact ⟨fun i hi => (k _).trans (hstored i hi), fun b hb => (k b).trans (hkept b hb)⟩

end Sys2Proof.Machine
end

section
/-! Where BT, BTS, BTR and BTC find their bit (spec/41_bitops.md R200), and what they make of it (R190 to R193). -/

namespace Sys2Proof.Machine

/-! The location. -/

/-- A width that divides `2^w` divides the difference of the signed and the unsigned reading. -/
theorem toInt_emod_width {w : Nat} (hdvd : (w : Int) ∣ (2 ^ w : Nat)) (x : BitVec w) :
    x.toInt % w = (x.toNat % w : Nat) := by
  calc x.toInt % w = x.toInt % (2 ^ w : Nat) % w := (Int.emod_emod_of_dvd _ hdvd).symm
    _ = (x.toNat : Int) % (2 ^ w : Nat) % w := by rw [BitVec.toInt_eq_toNat_bmod, Int.bmod_emod]
    _ = (x.toNat % w : Nat) := by rw [Int.emod_emod_of_dvd _ hdvd, Int.natCast_mod]

section
variable {s s₁ : State} {d : Desc} {w : Nat} {o : BitOffset}

theorem bitIndex_lt (hw : 0 < w) (s : State) (o : BitOffset) (d : Desc) : s.bitIndex w o d < w := by
  cases o <;> exact Nat.mod_lt _ hw

theorem bitBase_of_register (hm : d.memform = false) :
    s.bitBase w o d = .ok ((s.gpr d.dst.toNat).setWidth w) s := by
  simp [State.bitBase, hm, State.x]

theorem bitBase_of_memory (hm : d.memform = true) {v : Packed}
    (hread : s.memRead (s.bitAddress w o d) (w / 8) = .ok v s₁) : s.bitBase w o d = .ok (v.setWidth w) s₁ := by
  simp [State.bitBase, hm, hread]

/-- From ordinary memory the word is read with nothing changed. -/
theorem bitBase_eq_self_of_memory (hm : d.memform = true) {base : BitVec w} (hbase : s.bitBase w o d = .ok base s₁)
    (ht : s.target (s.bitAddress w o d) (w / 8) = .memory) : s₁ = s := by
  rw [State.bitBase, if_pos hm] at hbase
  obtain ⟨v, u, hread, hu⟩ := Access.bind_eq_ok.1 hbase
  cases hu
  obtain ⟨-, -, rfl, -⟩ | ⟨_, _, hwindow, -⟩ := memRead_ok hread
  · rfl
  · cases ht.symm.trans hwindow

/-- R200: a register offset is a signed count of words, which moves the address, and the position in the word. -/
theorem bitAddress_reg (hdvd : (w : Int) ∣ (2 ^ w : Nat)) :
    ∃ k : Int, s.bitAddress w .reg d = d.addr + BitVec.ofInt 64 (k * (w / 8 : Nat)) ∧
      k * w + s.bitIndex w .reg d = ((s.gpr d.src1.toNat).setWidth w).toInt := by
  refine ⟨(s.x w d.src1).toInt / w, by rw [State.bitAddress, mul_comm], ?_⟩
  rw [State.bitIndex, ← toInt_emod_width hdvd, Int.ediv_mul_add_emod]
  rfl

end

/-- Settles O10: the offset is split by the width into a word and a position, and the width divides `2^w`. -/
theorem bitLocation : Obligations.BitLocation := by
  intro s d w hw
  have hdvd : (w : Int) ∣ (2 ^ w : Nat) := by
    simp only [List.mem_cons, List.not_mem_nil, or_false] at hw
    obtain rfl | rfl | rfl := hw <;> decide
  exact ⟨⟨rfl, rfl⟩, rfl, fun o hm => bitBase_of_register hm, fun o v t hm => bitBase_of_memory hm, bitAddress_reg hdvd⟩

/-! The bit. -/

/-- `new` gives the word with the one bit at the position replaced by `f` of it. -/
def Replaces {w : Nat} (new : BitVec w → Nat → Option (BitVec w)) (f : Bool → Bool) : Prop :=
  ∀ base bit, bit < w →
    ∃ v, new base bit = some v ∧ ∀ j < w, v.getLsbD j = if j = bit then f (base.getLsbD j) else base.getLsbD j

section
variable {w : Nat}

theorem getLsbD_one_shiftLeft {bit : Nat} (hbit : bit < w) (j : Nat) : (1#w <<< bit).getLsbD j = decide (j = bit) := by
  rw [← BitVec.twoPow_eq, BitVec.getLsbD_twoPow, decide_eq_true hbit, Bool.true_and]
  exact decide_eq_decide.2 eq_comm

theorem replaces_bts : Replaces (w := w) btsNew (fun _ => true) := by
  refine fun base bit hbit => ⟨_, rfl, fun j _ => ?_⟩
  rw [BitVec.getLsbD_or, getLsbD_one_shiftLeft hbit]
  by_cases h : j = bit <;> simp [h]

theorem replaces_btr : Replaces (w := w) btrNew (fun _ => false) := by
  refine fun base bit hbit => ⟨_, rfl, fun j hj => ?_⟩
  rw [BitVec.getLsbD_and, BitVec.getLsbD_not, getLsbD_one_shiftLeft hbit, decide_eq_true hj]
  by_cases h : j = bit <;> simp [h]

theorem replaces_btc : Replaces (w := w) btcNew not := by
  refine fun base bit hbit => ⟨_, rfl, fun j _ => ?_⟩
  rw [BitVec.getLsbD_xor, getLsbD_one_shiftLeft hbit]
  by_cases h : j = bit <;> simp [h]

/-- The word that the statement describes bit by bit is the one the handler computes. -/
theorem Replaces.eq_some {new : BitVec w → Nat → Option (BitVec w)} {f : Bool → Bool} (hnew : Replaces new f)
    {base v : BitVec w} {bit : Nat} (hbit : bit < w)
    (hv : ∀ j < w, v.getLsbD j = if j = bit then f (base.getLsbD j) else base.getLsbD j) : new base bit = some v := by
  obtain ⟨x, hx, hbits⟩ := hnew base bit hbit
  rw [hx, BitVec.eq_of_getLsbD_eq fun j hj => (hbits j hj).trans (hv j hj).symm]

/-! The body. -/

variable {s s₁ : State} {d : Desc} {o : BitOffset} {base v : BitVec w}

/-- R190: BT writes no word. -/
theorem bitTest_btNew (hbase : s.bitBase w o d = .ok base s₁) :
    bitTest w o btNew d s = .ok () (s₁.writeFlags (bitTestFlags (base.getLsbD (s.bitIndex w o d)))) := by
  rw [bitTest, hbase, Access.bind_ok]
  rfl

variable {new : BitVec w → Nat → Option (BitVec w)}

theorem bitTest_of_register (hbase : s.bitBase w o d = .ok base s₁) (hnew : new base (s.bitIndex w o d) = some v)
    (hm : d.memform = false) :
    bitTest w o new d s = .ok () ((s₁.setX d.dst v).writeFlags (bitTestFlags (base.getLsbD (s.bitIndex w o d)))) := by
  simp [bitTest, hbase, hnew, hm]

theorem bitTest_of_memory (hbase : s.bitBase w o d = .ok base s₁) (hnew : new base (s.bitIndex w o d) = some v)
    (hm : d.memform = true) {s₂ : State}
    (hwrite : s₁.memWrite (s.bitAddress w o d) (w / 8) (v.setWidth 512) = .ok () s₂) :
    bitTest w o new d s = .ok () (s₂.writeFlags (bitTestFlags (base.getLsbD (s.bitIndex w o d)))) := by
  simp [bitTest, hbase, hnew, hm, hwrite]

end

/-! The instructions. -/

/-- The operand roles of a bit test, by its form. -/
def bitTestShape (o : BitOffset) : Shape :=
  match o with
  | .reg => .bitTestReg
  | .imm => .bitTestImm

section
variable {w : Nat} {o : BitOffset} {make : Desc → Instr} {d : Desc} {s s₁ : State} {base v : BitVec w}

/-- R190, R151: what a BT leaves. -/
theorem exec_bt (hruns : Runs make (bitTest w o btNew)) (hready : Ready s (make d))
    (hbase : s.bitBase w o d = .ok base s₁) :
    ∃ t, exec (make d) s = .next t ∧ Frame s₁ t d [] [] [] ∧
      (bitTestFlags (base.getLsbD (s.bitIndex w o d))).Shown s t := by
  have hread := LapicOnly.bitBase hbase
  obtain ⟨t, hexec, hflags, hframe⟩ := hruns.exec_writeFlags hready hread.ee hread.cfg (bitTest_btNew hbase)
  exact ⟨t, hexec, hframe, hflags⟩

/-- R112: in the register form the destination of a bit test is one of the sixteen general registers. -/
theorem RunsAs.dst_lt_of_bitTest {body : Desc → State → Access Unit} (hruns : RunsAs (bitTestShape o) make body)
    (hready : Ready s (make d)) (hm : d.memform = false) : d.dst.toNat < 16 := by
  refine dst_lt_of_gpr (hruns.malformed?_eq_none hready) ?_ ?_
  · cases o <;> rfl
  · rw [hm]; cases o <;> rfl

variable {new : BitVec w → Nat → Option (BitVec w)}

/-- R191 to R193: a bit test that replaces its bit in memory stores the word where it read it, and no more. -/
theorem exec_bitTest_memory (hruns : Runs make (bitTest w o new)) (hready : Ready s (make d)) (hw : w / 8 ≤ 64)
    (hbase : s.bitBase w o d = .ok base s₁) (hnew : new base (s.bitIndex w o d) = some v) (hm : d.memform = true)
    {s₂ : State} (hwrite : s₁.memWrite (s.bitAddress w o d) (w / 8) (v.setWidth 512) = .ok () s₂) :
    ∃ t, exec (make d) s = .next t ∧ Frame s₂ t d [] [] [] ∧ KeepsRegisters s t [] [] [] ∧
      (bitTestFlags (base.getLsbD (s.bitIndex w o d))).Shown s t ∧
      (∀ b : Word, (∀ i < w / 8, b ≠ s.bitAddress w o d + BitVec.ofNat 64 i) → t.byteAt b = s.byteAt b) ∧
      (s.target (s.bitAddress w o d) (w / 8) = .memory →
        StoredBytes s t (s.bitAddress w o d) (w / 8) (v.setWidth 512)) := by
  have hread := LapicOnly.bitBase hbase
  have hee : s₂.cpu.ee = s.cpu.ee := (StoresOf.memWrite hwrite).ee.trans hread.ee
  have hcfg : s₂.cfg = s.cfg := (memWrite_cfg hwrite).trans hread.cfg
  obtain ⟨t, hexec, hflags, hframe⟩ := hruns.exec_writeFlags hready hee hcfg (bitTest_of_memory hbase hnew hm hwrite)
  refine ⟨t, hexec, hframe, (KeepsRegisters.of_ee_eq hee).trans hframe.registers, hflags, fun b hb => ?_, fun ht => ?_⟩
  · calc t.byteAt b = s₂.byteAt b := hframe.memory b
      _ = s₁.byteAt b := memWrite_byteAt_of_ne hwrite hb
      _ = s.byteAt b := hread.byteAt b
  · obtain rfl := bitBase_eq_self_of_memory hm hbase ht
    exact (memWrite_storedBytes hwrite hw ht).of_keepsMemory hframe.memory

end

/-- Settles O11: BT writes no word, and its flags are those of a bit test. -/
theorem bitTestReadsTheBit : Obligations.BitTestReadsTheBit := by
  unfold Obligations.BitTestReadsTheBit
  intro reads
  have hreads {w : Nat} {o : BitOffset} {make : Desc → Instr} (hruns : Runs make (bitTest w o btNew)) : reads w o make :=
    fun _ _ _ _ => exec_bt hruns
  refine ⟨hreads ?_, hreads ?_, hreads ?_, hreads ?_, hreads ?_, hreads ?_⟩
  all_goals exact fun _ => ⟨rfl, _, rfl, fun _ => rfl⟩

/-- Settles O12: the word with the bit replaced is the one written, to the register or to the bytes it was read from. -/
theorem bitTestModifiesTheBit : Obligations.BitTestModifiesTheBit := by
  unfold Obligations.BitTestModifiesTheBit
  intro modifies
  have hmodifies {w : Nat} {o : BitOffset} {make : Desc → Instr} {new : BitVec w → Nat → Option (BitVec w)}
      {f : Bool → Bool} (hw : 0 < w ∧ w / 8 ≤ 64) (hnew : Replaces new f)
      (hruns : RunsAs (bitTestShape o) make (bitTest w o new)) : modifies w o make f := by
    intro d s s₁ base v hready hbase hv
    have hword := hnew.eq_some (bitIndex_lt hw.1 s o d) hv
    exact ⟨fun hm => hruns.runs.exec_setX_writeFlags hready (hruns.dst_lt_of_bitTest hready hm) (.bitBase hbase)
        (bitTest_of_register hbase hword hm),
      fun hm s₂ => exec_bitTest_memory hruns.runs hready hw.2 hbase hword hm⟩
  have h16 : 0 < 16 ∧ 16 / 8 ≤ 64 := by decide
  have h32 : 0 < 32 ∧ 32 / 8 ≤ 64 := by decide
  have h64 : 0 < 64 ∧ 64 / 8 ≤ 64 := by decide
  refine ⟨⟨hmodifies h16 replaces_bts ?_, hmodifies h32 replaces_bts ?_, hmodifies h64 replaces_bts ?_,
      hmodifies h16 replaces_bts ?_, hmodifies h32 replaces_bts ?_, hmodifies h64 replaces_bts ?_⟩,
    ⟨hmodifies h16 replaces_btr ?_, hmodifies h32 replaces_btr ?_, hmodifies h64 replaces_btr ?_,
      hmodifies h16 replaces_btr ?_, hmodifies h32 replaces_btr ?_, hmodifies h64 replaces_btr ?_⟩,
    hmodifies h16 replaces_btc ?_, hmodifies h32 replaces_btc ?_, hmodifies h64 replaces_btc ?_,
    hmodifies h16 replaces_btc ?_, hmodifies h32 replaces_btc ?_, hmodifies h64 replaces_btc ?_⟩
  all_goals exact ⟨fun _ => ⟨rfl, _, rfl, fun _ => rfl⟩, fun _ => rfl⟩

end Sys2Proof.Machine
end

section
/-! Bit scans and bit counts (spec/41_bitops.md R194 to R198, spec/40_primitives_flags_masking.md R140 to R142). -/

namespace Sys2Proof.Machine

/-! The counts. -/

/-- `n` is the first of the positions below `w` where `p` holds, `w` where it holds at none. -/
structure IsFirst (w : Nat) (p : Nat → Bool) (n : Nat) : Prop where
  le     : n ≤ w
  before : ∀ m < n, p m = false
  holds  : n < w → p n = true

/-- Both counts of zero bits are such a search. -/
theorem isFirst_find? (w : Nat) (p : Nat → Bool) : IsFirst w p (((List.range w).find? p).getD w) := by
  cases hfind : (List.range w).find? p with
  | none =>
    have hno := List.find?_range_eq_none.1 hfind
    exact ⟨le_rfl, fun m hm => Bool.eq_false_of_not_eq_true' (hno m hm), fun h => absurd h (lt_irrefl w)⟩
  | some n =>
    obtain ⟨hn, hmem, hbefore⟩ := List.find?_range_eq_some.1 hfind
    exact ⟨(List.mem_range.1 hmem).le, fun m hm => Bool.eq_false_of_not_eq_true' (hbefore m hm), fun _ => hn⟩

section
variable {w : Nat} (x : BitVec w)

theorem isFirst_tzcnt : IsFirst w x.getLsbD (tzcnt x) := isFirst_find? w _

theorem isFirst_lzcnt : IsFirst w x.getMsbD (lzcnt x) := by
  obtain ⟨hle, hbefore, hat⟩ := isFirst_find? w fun i => x.getLsbD (w - 1 - i)
  refine ⟨hle, fun m hm => ?_, fun h => ?_⟩
  · rw [BitVec.getMsbD_eq_getLsbD, hbefore m hm, Bool.and_false]
  · rw [BitVec.getMsbD_eq_getLsbD, decide_eq_true h, Bool.true_and]
    exact hat h

theorem popcnt_eq_card : popcnt x = ((Finset.range w).filter fun j => x.getLsbD j = true).card :=
  (maskRank_eq_count x w).trans (Nat.count_eq_card_filter_range _ w)

variable {x}

/-- A value that is not 0 has a lowest 1 bit. -/
theorem tzcnt_lt (hx : x ≠ 0#w) : tzcnt x < w := by
  obtain ⟨hle, hbefore, -⟩ := isFirst_tzcnt x
  refine lt_of_le_of_ne hle fun heq => hx (BitVec.eq_of_getLsbD_eq fun j hj => ?_)
  rw [hbefore j (hj.trans_eq heq.symm), BitVec.getLsbD_zero]

/-- A value that is not 0 has a highest 1 bit. -/
theorem lzcnt_lt (hx : x ≠ 0#w) : lzcnt x < w := by
  obtain ⟨hle, hbefore, -⟩ := isFirst_lzcnt x
  refine lt_of_le_of_ne hle fun heq => hx (BitVec.eq_of_getMsbD_eq fun j hj => ?_)
  rw [hbefore j (hj.trans_eq heq.symm), BitVec.getMsbD_zero]

/-- R194: the index of a value that is not 0 is that of a 1 bit, and below it there is none. -/
theorem tzcnt_spec (hx : x ≠ 0#w) :
    tzcnt x < w ∧ x.getLsbD (tzcnt x) = true ∧ ∀ m < tzcnt x, x.getLsbD m = false :=
  ⟨tzcnt_lt hx, (isFirst_tzcnt x).holds (tzcnt_lt hx), (isFirst_tzcnt x).before⟩

/-- R195: the index of a value that is not 0 is that of a 1 bit, and above it there is none. -/
theorem msbIndex_spec (hx : x ≠ 0#w) :
    msbIndex x < w ∧ x.getLsbD (msbIndex x) = true ∧ ∀ m, msbIndex x < m → x.getLsbD m = false := by
  obtain ⟨-, hbefore, hat⟩ := isFirst_lzcnt x
  have hlt := lzcnt_lt hx
  have hone := hat hlt
  rw [BitVec.getMsbD_eq_getLsbD, decide_eq_true hlt, Bool.true_and] at hone
  refine ⟨by unfold msbIndex; omega, hone, fun m hm => ?_⟩
  by_cases hmw : m < w
  · unfold msbIndex at hm
    have hzero := hbefore (w - 1 - m) (by omega)
    rwa [BitVec.getMsbD_eq_getLsbD, decide_eq_true (by omega : w - 1 - m < w), Bool.true_and,
      (by omega : w - 1 - (w - 1 - m) = m)] at hzero
  · exact BitVec.getLsbD_of_ge x m (not_lt.1 hmw)

end

/-- A count fits in the width, so that it is 0 exactly when the result is. -/
theorem ofNat_count_beq_zero {w n : Nat} (hn : n ≤ w) : (BitVec.ofNat w n == 0#w) = (n == 0) := by
  have hlt : n < 2 ^ w := hn.trans_lt Nat.lt_two_pow_self
  rw [Bool.eq_iff_iff, beq_iff_eq, beq_iff_eq, ← BitVec.toNat_inj, BitVec.toNat_ofNat, Nat.mod_eq_of_lt hlt,
    BitVec.toNat_zero]

/-! The bodies. -/

section
variable {w : Nat} {d : Desc} {s s₁ : State} {v : BitVec w}

theorem bitScan_of_zero {index : BitVec w → Nat} (hsrc : s.srcG w d d.src1 = .ok v s₁) (hv : v = 0#w) :
    bitScan w index d s = .ok () (s₁.writeFlags (zfOnly true)) := by
  rw [bitScan, hsrc, Access.bind_ok, if_pos hv]

theorem bitScan_of_ne_zero {index : BitVec w → Nat} (hsrc : s.srcG w d d.src1 = .ok v s₁) (hv : v ≠ 0#w) :
    bitScan w index d s = .ok () ((s₁.setX d.dst (BitVec.ofNat w (index v))).writeFlags (zfOnly false)) := by
  rw [bitScan, hsrc, Access.bind_ok, if_neg hv]

theorem popcntBody_ok (hsrc : s.srcG w d d.src1 = .ok v s₁) :
    popcntBody w d s = .ok () ((s₁.setX d.dst (BitVec.ofNat w (popcnt v))).writeFlags (popcntFlags (v == 0#w))) := by
  rw [popcntBody, hsrc, Access.bind_ok]

theorem countBody_ok {count : BitVec w → Nat} (hsrc : s.srcG w d d.src1 = .ok v s₁) (hcount : count v ≤ w) :
    countBody w count d s =
      .ok () ((s₁.setX d.dst (BitVec.ofNat w (count v))).writeFlags (countFlags (v == 0#w) (count v == 0))) := by
  rw [countBody, hsrc, Access.bind_ok, ← ofNat_count_beq_zero hcount]

end

/-- Settles O13: the index is that of the first 1 bit from below or from above. -/
theorem bitScansFindTheBit : Obligations.BitScansFindTheBit := by
  unfold Obligations.BitScansFindTheBit
  intro scans
  have hscans {w : Nat} {make : Desc → Instr} {index : BitVec w → Nat} {found : BitVec w → Nat → Prop}
      (hindex : ∀ {v}, v ≠ 0#w → index v < w ∧ v.getLsbD (index v) = true ∧ found v (index v))
      (hruns : RunsAs .gprUnary make (bitScan w index)) : scans w make found := by
    intro d s s₁ v hready hsrc
    have hread := LapicOnly.srcG hsrc
    refine ⟨fun hv => hruns.runs.exec_writeFlags hready hread.ee hread.cfg (bitScan_of_zero hsrc hv), fun hv => ?_⟩
    obtain ⟨hlt, hone, hfound⟩ := hindex hv
    obtain ⟨t, hexec, hresult⟩ := hruns.runs.exec_setX_writeFlags hready (hruns.dst_lt_of_gprUnary hready) hread
      (bitScan_of_ne_zero hsrc hv)
    exact ⟨t, index v, hexec, hlt, hone, hfound, hresult⟩
  refine ⟨⟨hscans tzcnt_spec ?_, hscans tzcnt_spec ?_, hscans tzcnt_spec ?_⟩,
    hscans msbIndex_spec ?_, hscans msbIndex_spec ?_, hscans msbIndex_spec ?_⟩
  all_goals exact ⟨fun _ => ⟨rfl, _, rfl, fun _ => rfl⟩, fun _ => rfl⟩

/-- Settles O14: the loop counts the positions whose bit is 1. -/
theorem populationCount : Obligations.PopulationCount := by
  unfold Obligations.PopulationCount
  intro counts
  have hcounts {w : Nat} {make : Desc → Instr} (hruns : RunsAs .gprUnary make (popcntBody w)) : counts w make := by
    intro d s s₁ v hready hsrc
    rw [← popcnt_eq_card]
    exact hruns.runs.exec_setX_writeFlags hready (hruns.dst_lt_of_gprUnary hready) (.srcG hsrc) (popcntBody_ok hsrc)
  refine ⟨hcounts ?_, hcounts ?_, hcounts ?_⟩
  all_goals exact ⟨fun _ => ⟨rfl, _, rfl, fun _ => rfl⟩, fun _ => rfl⟩

/-- Settles O15: each count is the first position of a 1 bit from its end, and fits in the width. -/
theorem trailingAndLeadingZeroCounts : Obligations.TrailingAndLeadingZeroCounts := by
  unfold Obligations.TrailingAndLeadingZeroCounts
  intro counts
  have hcounts {w : Nat} {make : Desc → Instr} {count : BitVec w → Nat} {bit : BitVec w → Nat → Bool}
      (hcount : ∀ v, IsFirst w (bit v) (count v)) (hruns : RunsAs .gprUnary make (countBody w count)) :
      counts w make bit := by
    intro d s s₁ v hready hsrc
    obtain ⟨hle, hbefore, hat⟩ := hcount v
    obtain ⟨t, hexec, hresult⟩ := hruns.runs.exec_setX_writeFlags hready (hruns.dst_lt_of_gprUnary hready) (.srcG hsrc)
      (countBody_ok hsrc hle)
    exact ⟨t, count v, hexec, hle, hbefore, hat, hresult⟩
  refine ⟨⟨hcounts isFirst_tzcnt ?_, hcounts isFirst_tzcnt ?_, hcounts isFirst_tzcnt ?_⟩,
    hcounts isFirst_lzcnt ?_, hcounts isFirst_lzcnt ?_, hcounts isFirst_lzcnt ?_⟩
  all_goals exact ⟨fun _ => ⟨rfl, _, rfl, fun _ => rfl⟩, fun _ => rfl⟩

end Sys2Proof.Machine
end

section
/-! How the BMI and TBM handlers complete (spec/42_bmi.md R223, spec/43_tbm.md R240): each reads one operand and writes a
general register at its width, with the flags of a logical result or with none. -/

namespace Sys2Proof.Machine

/-! The destination. -/

/-- The operand roles of a handler whose destination is a general register in every form. -/
structure WritesGpr (sh : Shape) : Prop where
  kind  : sh.dst = .gpr
  inReg : ∀ memform, sh.mem.takes .dst memform = false

theorem writesGpr_gprUnary : WritesGpr .gprUnary := ⟨rfl, fun _ => Bool.and_false _⟩
theorem writesGpr_gprUnaryByte : WritesGpr .gprUnaryByte := ⟨rfl, fun _ => Bool.and_false _⟩
theorem writesGpr_gprUnaryControl : WritesGpr .gprUnaryControl := ⟨rfl, fun _ => Bool.and_false _⟩
theorem writesGpr_gprValueFirst : WritesGpr .gprValueFirst := ⟨rfl, fun _ => Bool.and_false _⟩
theorem writesGpr_gprValueSecond : WritesGpr .gprValueSecond := ⟨rfl, fun _ => Bool.and_false _⟩

section
variable {sh : Shape} {make : Desc → Instr} {body : Desc → State → Access Unit} {d : Desc} {s : State}

/-- R112: such a destination is one of the sixteen general registers. -/
theorem RunsAs.dst_lt (hruns : RunsAs sh make body) (hsh : WritesGpr sh) (hready : Ready s (make d)) :
    d.dst.toNat < 16 :=
  dst_lt_of_gpr (hruns.malformed?_eq_none hready) hsh.kind (hsh.inReg _)

/-- R112: the first source of `OP r, r, r/m` is one of the sixteen general registers. -/
theorem RunsAs.src1_lt_of_gprValueSecond (hruns : RunsAs .gprValueSecond make body) (hready : Ready s (make d)) :
    d.src1.toNat < 16 := by
  obtain ⟨-, -, -, -, -, -, -, hsrc1, -⟩ := wellFormed_clauses (hruns.malformed?_eq_none hready)
  have htakes : Shape.gprValueSecond.mem.takes .src1 d.memform = false := Bool.and_false _
  rw [htakes] at hsrc1
  exact of_decide_eq_true hsrc1

end

/-! The frame. -/

theorem KeepsRegisters.refl (s : State) (gprs vregs kregs : List Nat) : KeepsRegisters s s gprs vregs kregs :=
  ⟨fun _ _ _ => rfl, fun _ _ _ => rfl, fun _ _ _ => rfl⟩

/-- A write of a listed general register keeps the registers that are not listed. -/
theorem KeepsRegisters.setX {s t : State} {gprs vregs kregs : List Nat} (h : KeepsRegisters s t gprs vregs kregs)
    {r : BitVec 5} (hr : r.toNat < 16) (hmem : r.toNat ∈ gprs) {w : Nat} (v : BitVec w) :
    KeepsRegisters s (t.setX r v) gprs vregs kregs := by
  refine ⟨fun i hi hne => ?_, h.vreg, h.kreg⟩
  have hcells : ¬ r.toNat % 16 = i % 16 := by
    rw [Nat.mod_eq_of_lt hr, Nat.mod_eq_of_lt hi]
    exact fun heq => hne (heq ▸ hmem)
  rw [State.setX, State.gpr_setGpr, if_neg hcells, h.gpr i hi hne]

theorem KeepsRegisters.advance {s t : State} {gprs vregs kregs : List Nat} (h : KeepsRegisters s t gprs vregs kregs)
    (n : BitVec 4) : KeepsRegisters s (t.advance n) gprs vregs kregs :=
  ⟨h.gpr, h.vreg, h.kreg⟩

/-- The frame of a handler that writes its destination and no more. -/
theorem frame_setX (s : State) {d : Desc} (hdst : d.dst.toNat < 16) {w : Nat} (v : BitVec w) :
    Frame s ((s.setX d.dst v).advance d.ilen) d [d.dst.toNat] [] [] :=
  ⟨rfl, ((KeepsRegisters.refl s _ _ _).setX hdst List.mem_cons_self v).advance _, fun _ => rfl,
    ⟨rfl, rfl, rfl, rfl, rfl, rfl, rfl, rfl, rfl, rfl⟩⟩

/-- The frame of a handler that writes its first source, then its destination. -/
theorem frame_setX_setX (s : State) {d : Desc} (hdst : d.dst.toNat < 16) (hsrc1 : d.src1.toNat < 16) {w : Nat}
    (lo hi : BitVec w) :
    Frame s (((s.setX d.src1 lo).setX d.dst hi).advance d.ilen) d [d.dst.toNat, d.src1.toNat] [] [] := by
  have hlow := (KeepsRegisters.refl s [d.dst.toNat, d.src1.toNat] [] []).setX hsrc1
    (List.mem_cons_of_mem _ List.mem_cons_self) lo
  exact ⟨rfl, (hlow.setX hdst List.mem_cons_self hi).advance _, fun _ => rfl,
    ⟨rfl, rfl, rfl, rfl, rfl, rfl, rfl, rfl, rfl, rfl⟩⟩

/-! The families. -/

section
variable {sh : Shape} {w : Nat} {make : Desc → Instr} {body : Desc → State → Access Unit} {field : Desc → BitVec 5}
  {res : Desc → State → BitVec w → BitVec w} {cf : Desc → State → BitVec w → Bool}

/-- R223, R240: a handler whose body writes `res` with the flags of a logical result. -/
theorem RunsAs.gprLogic (hruns : RunsAs sh make body) (hsh : WritesGpr sh)
    (hbody : ∀ {d : Desc} {s s₁ : State} {v : BitVec w}, s.srcG w d (field d) = .ok v s₁ →
      body d s = .ok () (s₁.logicResult d (res d s v) (cf d s v))) :
    GprLogic w make field res cf :=
  fun _ _ _ _ hready hsrc =>
    hruns.runs.exec_setX_writeFlags hready (hruns.dst_lt hsh hready) (.srcG hsrc) (hbody hsrc)

/-- R223: a handler whose body writes `res` and no flag. -/
theorem RunsAs.gprQuiet (hruns : RunsAs sh make body) (hsh : WritesGpr sh)
    (hbody : ∀ {d : Desc} {s s₁ : State} {v : BitVec w}, s.srcG w d (field d) = .ok v s₁ →
      body d s = .ok () (s₁.setX d.dst (res d s v))) :
    GprQuiet w make field res := by
  intro d s s₁ v hready hsrc
  refine ⟨(s₁.setX d.dst (res d s v)).advance d.ilen, ?_, ?_, ⟨rfl, rfl⟩, frame_setX s₁ (hruns.dst_lt hsh hready) _⟩
  · rw [hruns.runs.exec_eq hready, hbody hsrc, Access.finish_ok]
  · rw [State.advance_gpr, gpr_setX_same, (LapicOnly.srcG hsrc).gpr]

end

end Sys2Proof.Machine
end

section
/-! BMI and TBM (spec/42_bmi.md R210 to R222, spec/43_tbm.md R230 to R239). -/

namespace Sys2Proof.Machine

/-! Values. -/

section
variable {w : Nat}

theorem and_lowOnes_of_le {n : Nat} (h : w ≤ n) (v : BitVec w) : v &&& lowOnes w n = v := by
  refine BitVec.eq_of_getLsbD_eq fun j hj => ?_
  rw [BitVec.getLsbD_and, getLsbD_lowOnes, decide_eq_true hj, decide_eq_true (hj.trans_le h), Bool.and_self, Bool.and_true]

/-- R143: the guards of the extraction are what a shift and a mask of the lengths give. -/
theorem bextr_eq (v : BitVec w) (start len : BitVec 8) :
    bextr v start len = v >>> start.toNat &&& lowOnes w len.toNat := by
  unfold bextr
  by_cases hstart : w ≤ start.toNat
  · rw [if_pos (.inl hstart), BitVec.ushiftRight_eq_zero hstart, BitVec.zero_and]
  · by_cases hlen : len = 0#8
    · rw [if_pos (.inr hlen), hlen]
      exact BitVec.and_zero.symm
    · rw [if_neg (not_or.2 ⟨hstart, hlen⟩)]
      by_cases hw : w ≤ len.toNat
      · rw [if_pos hw, and_lowOnes_of_le hw]
      · rw [if_neg hw]

/-- R211, R230: the control holds the start in its low byte and the length in the next. -/
theorem bextr_control {n : Nat} (v : BitVec w) (c : BitVec n) :
    bextr v (c.extractLsb' 0 8) (c.extractLsb' 8 8) =
      v >>> (c.toNat % 256) &&& BitVec.ofNat w (2 ^ (c.toNat / 256 % 256) - 1) := by
  rw [bextr_eq, BitVec.extractLsb'_toNat, BitVec.extractLsb'_toNat, Nat.shiftRight_zero, Nat.shiftRight_eq_div_pow]
  rfl

/-- R219: the rotation takes its count modulo the width. -/
theorem rotr_mod (v : BitVec w) (c : Nat) : rotr v (c % w) = v.rotateRight c := by
  unfold rotr
  split
  · rename_i hzero
    rw [← BitVec.rotateRight_mod_eq_rotateRight, hzero, BitVec.rotateRight_def, Nat.zero_mod, BitVec.ushiftRight_zero,
      Nat.sub_zero, BitVec.shiftLeft_eq_zero le_rfl, BitVec.or_zero]
  · exact BitVec.rotateRight_def.symm

/-- R240: `v + 1` carries out of all ones only. -/
theorem carryOnes_eq (v : BitVec w) : carryOnes v = (v == BitVec.allOnes w) := by
  rw [carryOnes, Bool.eq_iff_iff, beq_iff_eq, beq_iff_eq, ← BitVec.neg_one_eq_allOnes]
  exact eq_neg_iff_add_eq_zero.symm

theorem carryZero_eq (v : BitVec w) : carryZero v = (v == 0) := rfl
theorem carryNonZero_eq (v : BitVec w) : carryNonZero v = (v != 0) := rfl

end

section
variable {s : State} {r : BitVec 5}

theorem x_64 : s.x 64 r = s.gpr r.toNat := BitVec.setWidth_eq _

/-- R220 to R222: a count modulo the width, read at a width that divides `2^w`. -/
theorem toNat_x_mod {w : Nat} (hdvd : w ∣ 2 ^ w) : (s.x w r).toNat % w = (s.gpr r.toNat).toNat % w := by
  rw [State.x, BitVec.toNat_setWidth, Nat.mod_mod_of_dvd _ hdvd]

/-- R12: an exact integer written to a register at 32 or 64 bits. -/
theorem mergeGpr_ofNat {w : Nat} (hw : w = 32 ∨ w = 64) (old : Word) (n : Nat) :
    mergeGpr w old (BitVec.ofNat w n) = BitVec.ofNat 64 (n % 2 ^ w) := by
  obtain rfl | rfl := hw
  · rw [mergeGpr, if_neg (by decide)]
    exact BitVec.eq_of_toNat_eq (by simp)
  · rw [mergeGpr_64]
    exact BitVec.eq_of_toNat_eq (by simp)

end

/-! The bodies. -/

section
variable {w : Nat} {d : Desc} {s s₁ : State} {v : BitVec w}

theorem andnBody_ok (hsrc : s.srcG w d d.src2 = .ok v s₁) :
    andnBody w d s = .ok () (s₁.logicResult d (~~~ s.x w d.src1 &&& v) false) := by
  rw [andnBody, hsrc, Access.bind_ok]

theorem bextrBody_ok (hw : 16 ≤ w) (hsrc : s.srcG w d d.src1 = .ok v s₁) :
    bextrBody w d s = .ok () (s₁.logicResult d (v >>> ((s.gpr d.src2.toNat).toNat % 256) &&&
      BitVec.ofNat w (2 ^ ((s.gpr d.src2.toNat).toNat / 256 % 256) - 1)) false) := by
  rw [bextrBody, hsrc, Access.bind_ok, ← bextr_control]
  dsimp only [State.x]
  rw [BitVec.extractLsb'_setWidth_of_le (by omega), BitVec.extractLsb'_setWidth_of_le hw]

theorem bextriBody_ok (hsrc : s.srcG w d d.src1 = .ok v s₁) :
    bextriBody w d s = .ok () (s₁.logicResult d (v >>> (d.imm.toNat % 256) &&&
      BitVec.ofNat w (2 ^ (d.imm.toNat / 256 % 256) - 1)) false) := by
  rw [bextriBody, hsrc, Access.bind_ok, bextr_control]

theorem sourceBody_ok {f : BitVec w → BitVec w} {cf : BitVec w → Bool} (hsrc : s.srcG w d d.src1 = .ok v s₁) :
    sourceBody w f cf d s = .ok () (s₁.logicResult d (f v) (cf v)) := by
  rw [sourceBody, hsrc, Access.bind_ok]

/-- R215: an index out of range leaves the value whole, as the mask of that many ones does. -/
theorem bzhiBody_ok (hsrc : s.srcG w d d.src1 = .ok v s₁) :
    bzhiBody w d s = .ok () (s₁.logicResult d (v &&& BitVec.ofNat w (2 ^ ((s.gpr d.src2.toNat).toNat % 256) - 1))
      (decide (w ≤ (s.gpr d.src2.toNat).toNat % 256))) := by
  have hindex : (s.x 8 d.src2).toNat = (s.gpr d.src2.toNat).toNat % 256 := BitVec.toNat_setWidth _ _
  rw [bzhiBody, hsrc, Access.bind_ok, ← hindex, ← lowOnes]
  dsimp only
  by_cases h : w ≤ (s.x 8 d.src2).toNat
  · rw [if_neg (not_lt.2 h), and_lowOnes_of_le h, decide_eq_true h]
  · rw [if_pos (not_le.1 h), decide_eq_false h]

theorem mulxBody_ok (hsrc : s.srcG w d d.src2 = .ok v s₁) :
    mulxBody w d s = .ok () ((s₁.setX d.src1 (BitVec.ofNat w ((s.x w 2#5).toNat * v.toNat))).setX d.dst
      (BitVec.ofNat w ((s.x w 2#5).toNat * v.toNat / 2 ^ w))) := by
  rw [mulxBody, hsrc, Access.bind_ok]

theorem depositBody_ok {f : BitVec w → BitVec w → BitVec w} (hsrc : s.srcG w d d.src2 = .ok v s₁) :
    depositBody w f d s = .ok () (s₁.setX d.dst (f (s.x w d.src1) v)) := by
  rw [depositBody, hsrc, Access.bind_ok]

theorem rorxBody_ok (hsrc : s.srcG w d d.src1 = .ok v s₁) :
    rorxBody w d s = .ok () (s₁.setX d.dst (v.rotateRight (d.imm.toNat % 256))) := by
  rw [rorxBody, hsrc, Access.bind_ok, rotr_mod, Desc.imm8, BitVec.toNat_setWidth]

theorem shiftBody_ok {f : BitVec w → Nat → BitVec w} (hdvd : w ∣ 2 ^ w) (hsrc : s.srcG w d d.src1 = .ok v s₁) :
    shiftBody w f d s = .ok () (s₁.setX d.dst (f v ((s.gpr d.src2.toNat).toNat % w))) := by
  rw [shiftBody, hsrc, Access.bind_ok, toNat_x_mod hdvd]

end

/-! The product. -/

section
variable {w : Nat} {make : Desc → Instr} {d : Desc} {s s₁ : State} {v : BitVec w}

/-- R216: what a MULX leaves; where both halves go to one register, the high half is written last. -/
theorem RunsAs.exec_mulx (hw : w = 32 ∨ w = 64) (hruns : RunsAs .gprValueSecond make (mulxBody w))
    (hready : Ready s (make d)) (hsrc : s.srcG w d d.src2 = .ok v s₁) :
    ∃ t, exec (make d) s = .next t ∧
      (t.gpr d.dst.toNat = BitVec.ofNat 64 ((s.x w 2#5).toNat * v.toNat / 2 ^ w) ∧
        (d.src1 ≠ d.dst → t.gpr d.src1.toNat = BitVec.ofNat 64 ((s.x w 2#5).toNat * v.toNat % 2 ^ w))) ∧
      KeepsFlags s₁ t ∧ Frame s₁ t d [d.dst.toNat, d.src1.toNat] [] [] := by
  have hdst := hruns.dst_lt writesGpr_gprValueSecond hready
  have hsrc1 := hruns.src1_lt_of_gprValueSecond hready
  have hhigh : (s.x w 2#5).toNat * v.toNat / 2 ^ w < 2 ^ w :=
    Nat.div_lt_of_lt_mul (Nat.mul_lt_mul'' (s.x w 2#5).isLt v.isLt)
  have hexec := hruns.runs.exec_eq hready
  rw [mulxBody_ok hsrc, Access.finish_ok] at hexec
  refine ⟨_, hexec, ⟨?_, fun hne => ?_⟩, ⟨rfl, rfl⟩, frame_setX_setX s₁ hdst hsrc1 _ _⟩
  · rw [State.advance_gpr, gpr_setX_same, mergeGpr_ofNat hw, Nat.mod_eq_of_lt hhigh]
  · rw [State.advance_gpr, gpr_setX_of_ne _ hdst hsrc1 hne, gpr_setX_same, mergeGpr_ofNat hw]

end

/-- Settles O16: an extraction is a shift and a mask whatever its lengths, and so is BZHI out of range. -/
theorem andNotAndBitFields : Obligations.AndNotAndBitFields := by
  unfold Obligations.AndNotAndBitFields
  have second := writesGpr_gprValueSecond
  have first := writesGpr_gprValueFirst
  have control := writesGpr_gprUnaryControl
  refine ⟨⟨RunsAs.gprLogic ?_ second andnBody_ok, RunsAs.gprLogic ?_ second fun hsrc => x_64 ▸ andnBody_ok hsrc⟩,
    ⟨RunsAs.gprLogic ?_ first (bextrBody_ok (by decide)), RunsAs.gprLogic ?_ first (bextrBody_ok (by decide))⟩,
    ⟨RunsAs.gprLogic ?_ control bextriBody_ok, RunsAs.gprLogic ?_ control bextriBody_ok⟩,
    RunsAs.gprLogic ?_ first bzhiBody_ok, RunsAs.gprLogic ?_ first bzhiBody_ok⟩
  all_goals exact ⟨fun _ => ⟨rfl, _, rfl, fun _ => rfl⟩, fun _ => rfl⟩

/-- Settles O17: each handler is a function of its one source, with one of three carries. -/
theorem lowestBitOperations : Obligations.LowestBitOperations := by
  unfold Obligations.LowestBitOperations
  intro both
  have hboth {make32 make64 : Desc → Instr} (f : {w : Nat} → BitVec w → BitVec w)
      {carry cf : {w : Nat} → BitVec w → Bool} (hcarry : ∀ {w : Nat} (v : BitVec w), carry v = cf v)
      (h32 : RunsAs .gprUnary make32 (sourceBody 32 f carry)) (h64 : RunsAs .gprUnary make64 (sourceBody 64 f carry)) :
      both make32 make64 f cf :=
    ⟨h32.gprLogic writesGpr_gprUnary fun hsrc => by rw [sourceBody_ok hsrc, hcarry],
      h64.gprLogic writesGpr_gprUnary fun hsrc => by rw [sourceBody_ok hsrc, hcarry]⟩
  refine ⟨⟨hboth blsiF carryNonZero_eq ?_ ?_, hboth blsmskF carryZero_eq ?_ ?_, hboth blsrF carryZero_eq ?_ ?_⟩,
    ⟨hboth blcfillF carryOnes_eq ?_ ?_, hboth blciF carryOnes_eq ?_ ?_, hboth blcicF carryOnes_eq ?_ ?_,
      hboth blcmskF carryOnes_eq ?_ ?_, hboth blcsF carryOnes_eq ?_ ?_, hboth t1mskcF carryOnes_eq ?_ ?_⟩,
    hboth blsfillF carryZero_eq ?_ ?_, hboth blsicF carryZero_eq ?_ ?_, hboth tzmskF carryZero_eq ?_ ?_⟩
  all_goals exact ⟨fun _ => ⟨rfl, _, rfl, fun _ => rfl⟩, fun _ => rfl⟩

/-- Settles O18: the high half fits in the width, and is written last. -/
theorem multiplyWithoutFlags : Obligations.MultiplyWithoutFlags := by
  unfold Obligations.MultiplyWithoutFlags
  intro multiplies
  have hmultiplies {w : Nat} {make : Desc → Instr} (hw : w = 32 ∨ w = 64)
      (hruns : RunsAs .gprValueSecond make (mulxBody w)) : multiplies w make :=
    fun _ _ _ _ => hruns.exec_mulx hw
  refine ⟨hmultiplies (.inl rfl) ?_, hmultiplies (.inr rfl) ?_⟩
  all_goals exact ⟨fun _ => ⟨rfl, _, rfl, fun _ => rfl⟩, fun _ => rfl⟩

/-- Settles O19: each handler writes its result and no flag; a count read at the width is the register's modulo it. -/
theorem depositRotateShiftWithoutFlags : Obligations.DepositRotateShiftWithoutFlags := by
  unfold Obligations.DepositRotateShiftWithoutFlags
  have second := writesGpr_gprValueSecond
  have first := writesGpr_gprValueFirst
  have byte := writesGpr_gprUnaryByte
  have h32 : 32 ∣ 2 ^ 32 := by decide
  have h64 : 64 ∣ 2 ^ 64 := by decide
  refine ⟨⟨RunsAs.gprQuiet ?_ second depositBody_ok, RunsAs.gprQuiet ?_ second fun hsrc => x_64 ▸ depositBody_ok hsrc,
      RunsAs.gprQuiet ?_ second depositBody_ok, RunsAs.gprQuiet ?_ second fun hsrc => x_64 ▸ depositBody_ok hsrc⟩,
    ⟨RunsAs.gprQuiet ?_ byte rorxBody_ok, RunsAs.gprQuiet ?_ byte rorxBody_ok⟩,
    ⟨RunsAs.gprQuiet ?_ first (shiftBody_ok (f := sarxF) h32), RunsAs.gprQuiet ?_ first (shiftBody_ok (f := sarxF) h64)⟩,
    ⟨RunsAs.gprQuiet ?_ first (shiftBody_ok (f := shlxF) h32), RunsAs.gprQuiet ?_ first (shiftBody_ok (f := shlxF) h64)⟩,
    RunsAs.gprQuiet ?_ first (shiftBody_ok (f := shrxF) h32), RunsAs.gprQuiet ?_ first (shiftBody_ok (f := shrxF) h64)⟩
  all_goals exact ⟨fun _ => ⟨rfl, _, rfl, fun _ => rfl⟩, fun _ => rfl⟩

end Sys2Proof.Machine
end

section
/-! Shifts, comparisons and shuffles of elements (spec/40_primitives_flags_masking.md R154, R155, R159, spec/44_simd_int.md
R262 to R269), as the statements say them. -/

namespace Sys2Proof.Machine

section
variable {w : Nat}

/-! Shifts: the bit-vector operations already give 0, or copies of the sign, at or above the width. -/

theorem shlL_eq (a : BitVec w) (c : Nat) : shlL a c = a <<< c := by
  unfold shlL
  split
  · next hge => exact (BitVec.shiftLeft_eq_zero hge).symm
  · rfl

theorem shrL_eq (a : BitVec w) (c : Nat) : shrL a c = a >>> c := by
  unfold shrL
  split
  · next hge => exact (BitVec.ushiftRight_eq_zero hge).symm
  · rfl

theorem sarL_eq (a : BitVec w) (c : Nat) : sarL a c = a.sshiftRight c := by
  unfold sarL
  split
  · next hge =>
    cases hsign : a.msb
    · rw [BitVec.sshiftRight_eq_of_msb_false hsign, BitVec.ushiftRight_eq_zero hge]
      rfl
    · rw [BitVec.sshiftRight_eq_of_msb_true hsign, BitVec.ushiftRight_eq_zero hge, BitVec.not_zero]
      rfl
  · rfl

/-! Comparisons. -/

theorem ones_of_eqP (a b : BitVec w) : (if eqP a b then BitVec.allOnes w else 0#w) = onesIf w (a = b) := by
  simp only [eqP, onesIf, beq_iff_eq]

theorem ones_of_gtS (a b : BitVec w) : (if gtS a b then BitVec.allOnes w else 0#w) = onesIf w (b.slt a) := rfl

end

/-! Shuffles. -/

theorem toNat_imm8 (d : Desc) : d.imm8.toNat = d.imm.toNat % 256 :=
  BitVec.toNat_setWidth 8 d.imm

/-- R268: the selector of dword `i` is bits `2 (i mod 4)` and up of the immediate. -/
theorem lane_pshufd {L i : Nat} (d : Desc) (b : Packed) (hL : L ≤ 512) (hi : i < L / 32) :
    lane 32 (pshufd d.imm8 L b) i = lane 32 b (i / 4 * 4 + d.imm.toNat % 256 / 4 ^ (i % 4) % 4) := by
  have hselector : (d.imm8.extractLsb' (2 * (i % 4)) 2).toNat = d.imm.toNat % 256 / 4 ^ (i % 4) % 4 := by
    rw [BitVec.extractLsb'_toNat, Nat.shiftRight_eq_div_pow, pow_mul, toNat_imm8]
    rfl
  rw [pshufd, lane_packLanes (by decide) _ hi ((Nat.mul_div_le L 32).trans hL), hselector, Nat.mul_comm]

/-- R269: a control byte names a byte of its own group, which lies below the vector length, or gives 0. -/
theorem lane_pshufb {L i : Nat} (a b : Packed) (hL : L ≤ 512) (hgroups : 128 ∣ L) (hi : i < L / 8) :
    lane 8 (pshufb L (lowBits L a) b) i =
      if (lane 8 b i).getLsbD 7 then 0#8 else lane 8 a (i / 16 * 16 + (lane 8 b i).toNat % 16) := by
  have hindex : ((lane 8 b i).extractLsb' 0 4).toNat = (lane 8 b i).toNat % 16 := BitVec.extractLsb'_toNat _ _ _
  have hinside : 16 * (i / 16) + (lane 8 b i).toNat % 16 < L / 8 := by
    have := Nat.mod_lt (lane 8 b i).toNat (by decide : 16 > 0)
    omega
  rw [pshufb, lane_packLanes (by decide) _ hi ((Nat.mul_div_le L 8).trans hL)]
  dsimp only
  rw [BitVec.msb_eq_getLsbD_last, hindex, lane_lowBits _ (lane_end_le hinside), Nat.mul_comm]

end Sys2Proof.Machine
end

section
/-! The packed-integer instructions of class S (spec/44_simd_int.md R245, R250 to R264, R268, R269, R279). -/

namespace Sys2Proof.Machine

/-- R170: bits 127:0 of the register are the value's, bits 511:128 its old ones. `s₁` is what an operand read of `s` left. -/
theorem preservingWrite_write128 {s s₁ : State} {d : Desc} (hread : LapicOnly s s₁) {w : Nat} {v : Packed}
    {res : Nat → BitVec w} (hres : ∀ i < 128 / w, lane w v i = res i) :
    PreservingWrite s ((s₁.write128 d.dst v).advance d.ilen) d.dst.toNat w res := by
  have hvreg : ((s₁.write128 d.dst v).advance d.ilen).vreg d.dst.toNat =
      highBits 128 (s.vreg d.dst.toNat) ||| lowBits 128 v := by
    rw [State.advance_vreg, State.write128, State.vreg_setVreg, if_pos rfl, hread.vreg]
  refine ⟨fun i hi => ?_, fun j _ hj => ?_⟩
  · have hend := lane_end_le hi
    rw [hvreg, lane_or, lane_highBits _ hend, BitVec.zero_or, lane_lowBits _ hend, hres i hi]
  · rw [hvreg, getLsbD_merge, if_neg (not_lt.2 hj)]

section
variable {w : Nat} {make : Desc → Instr} {body : Desc → State → Access Unit}

/-- R245: a handler that leaves `s₁`, what an operand read of `s` left, with `v` written to bits 127:0 of its
destination. -/
theorem Runs.exec_write128 {d : Desc} {s s₁ : State} {v : Packed} {res : Nat → BitVec w} (hruns : Runs make body)
    (hready : Ready s (make d)) (hread : LapicOnly s s₁) (hbody : body d s = .ok () (s₁.write128 d.dst v))
    (hres : ∀ i < 128 / w, lane w v i = res i) :
    ∃ t, exec (make d) s = .next t ∧ PreservingWrite s t d.dst.toNat w res ∧ KeepsFlags s₁ t ∧
      Frame s₁ t d [] [d.dst.toNat] [] := by
  refine ⟨(s₁.write128 d.dst v).advance d.ilen, ?_, preservingWrite_write128 hread hres, ⟨rfl, rfl⟩, frame_setVreg s₁ d _⟩
  rw [hruns.exec_eq hready, hbody, Access.finish_ok]

/-- R245: a handler that reads its second source and writes `val`. -/
theorem sseResult_of_write128 {val : Desc → State → Packed → Packed} {res : Elements w} (hruns : Runs make body)
    (hbody : ∀ d s, body d s = (s.srcV 128 d d.src2).bind fun b s₁ => .ok () (s₁.write128 d.dst (val d s b)))
    (hres : ∀ d s b, ∀ i < 128 / w, lane w (val d s b) i = res d s b i) : SseResult make res := by
  intro d s s₁ b hready hsrc
  refine hruns.exec_write128 hready (.srcV hsrc) ?_ (hres d s b)
  rw [hbody, hsrc, Access.bind_ok]

/-- R245: a handler of two operands whose operation is element-wise. -/
theorem sseResult_of_laneWise {op : PackedOp} {f : BitVec w → BitVec w → BitVec w} (hop : LaneWise w op f)
    (hruns : Runs make (sseBinary op)) : SseResult make (pairwise Desc.dst f) := by
  refine sseResult_of_write128 hruns (fun _ _ => rfl) fun d s b i hi => ?_
  rw [hop _ _ _ i (by decide) hi, lane_lowBits _ (lane_end_le hi)]
  rfl

theorem sseResult_map2 {f g : BitVec w → BitVec w → BitVec w} (hfg : ∀ a b, f a b = g a b)
    (hruns : Runs make (sseBinary (map2 w f))) (hw : 0 < w := by decide) : SseResult make (pairwise Desc.dst g) :=
  sseResult_of_laneWise (laneWise_map2 hw hfg) hruns

end

/-- Settles O21: each handler reads its second source and writes an element-wise operation to bits 127:0. -/
theorem sseElementwise : Obligations.SseElementwise := by
  unfold Obligations.SseElementwise
  intro both
  refine ⟨⟨sseResult_map2 addL_eq ?_, sseResult_map2 addL_eq ?_, sseResult_map2 addL_eq ?_, sseResult_map2 addL_eq ?_,
      sseResult_map2 subL_eq ?_, sseResult_map2 subL_eq ?_, sseResult_map2 subL_eq ?_, sseResult_map2 subL_eq ?_⟩,
    ⟨sseResult_of_laneWise (laneWise_andP _) ?_, sseResult_of_laneWise (laneWise_andnP _) ?_,
      sseResult_of_laneWise (laneWise_orP _) ?_, sseResult_of_laneWise (laneWise_xorP _) ?_⟩,
    ⟨sseResult_map2 ones_of_eqP ?_, sseResult_map2 ones_of_eqP ?_, sseResult_map2 ones_of_eqP ?_,
      sseResult_map2 ones_of_eqP ?_, sseResult_map2 ones_of_gtS ?_, sseResult_map2 ones_of_gtS ?_,
      sseResult_map2 ones_of_gtS ?_, sseResult_map2 ones_of_gtS ?_⟩,
    ⟨sseResult_map2 minsL_eq ?_, sseResult_map2 minsL_eq ?_, sseResult_map2 minsL_eq ?_, sseResult_map2 maxsL_eq ?_,
      sseResult_map2 maxsL_eq ?_, sseResult_map2 maxsL_eq ?_⟩,
    sseResult_map2 minuL_eq ?_, sseResult_map2 minuL_eq ?_, sseResult_map2 minuL_eq ?_, sseResult_map2 maxuL_eq ?_,
    sseResult_map2 maxuL_eq ?_, sseResult_map2 maxuL_eq ?_⟩
  all_goals exact fun _ => ⟨rfl, _, rfl, fun _ => rfl⟩

/-- Settles O22: the shift of each element of the destination by the low byte of the immediate. -/
theorem sseShifts : Obligations.SseShifts := by
  unfold Obligations.SseShifts
  intro shifts
  have hshifts {w : Nat} {make : Desc → Instr} {f g : BitVec w → Nat → BitVec w} (hfg : ∀ a c, f a c = g a c)
      (hruns : Runs make (sseShift w f)) (hw : 0 < w := by decide) : shifts make g := by
    refine fun d s hready => hruns.exec_write128 hready (.refl s) rfl fun i hi => ?_
    rw [lane_map1 hw _ _ hi (by decide), hfg, lane_lowBits _ (lane_end_le hi), toNat_imm8]
  refine ⟨⟨hshifts shlL_eq ?_, hshifts shlL_eq ?_, hshifts shlL_eq ?_⟩,
    ⟨hshifts shrL_eq ?_, hshifts shrL_eq ?_, hshifts shrL_eq ?_⟩, hshifts sarL_eq ?_, hshifts sarL_eq ?_⟩
  all_goals exact fun _ => ⟨rfl, _, rfl, fun _ => rfl⟩

/-- Settles O23: the one group of 128 bits of a shuffle, and a load. -/
theorem sseShufflesAndLoad : Obligations.SseShufflesAndLoad := by
  have hpshufd : Runs .pshufd pshufdBody := fun _ => ⟨rfl, _, rfl, fun _ => rfl⟩
  have hpshufb : Runs .pshufb (sseBinary pshufb) := fun _ => ⟨rfl, _, rfl, fun _ => rfl⟩
  have hload : Runs .movdquLd movdquLoad := fun _ => ⟨rfl, _, rfl, fun _ => rfl⟩
  refine ⟨sseResult_of_write128 hpshufd (fun _ _ => rfl) fun d _ b i hi => ?_,
    sseResult_of_write128 hpshufb (fun _ _ => rfl) fun d s b i hi => ?_,
    sseResult_of_write128 hload (fun _ _ => rfl) fun _ _ _ _ _ => rfl⟩
  · have hgroup : i / 4 = 0 := Nat.div_eq_of_lt hi
    rw [lane_pshufd d b (by decide) hi, hgroup, Nat.zero_mul, Nat.zero_add]
  · have hgroup : i / 16 = 0 := Nat.div_eq_of_lt hi
    rw [lane_pshufb _ b (by decide) dvd_rfl hi, hgroup, Nat.zero_mul, Nat.zero_add]

end Sys2Proof.Machine
end

section
/-! Shifts, shuffles and comparisons of class V (spec/44_simd_int.md R246, R256, R257, R262 to R269). -/

namespace Sys2Proof.Machine

/-- R246: a handler of one source and an immediate: each element of the source shifted by the low byte of the
immediate. -/
theorem vecResult_vecShift {w : Nat} {make : Desc → Instr} {f g : BitVec w → Nat → BitVec w} (hfg : ∀ a c, f a c = g a c)
    (hruns : Runs make (vecShift w f)) (hw : 8 ≤ w := by decide) :
    VecResult make fun d _ b i => g (lane w b i) (d.imm.toNat % 256) := by
  refine vecResult_of_maskedWrite hw hruns (fun _ _ => rfl) fun d _ b hL i hi => ?_
  rw [lane_map1 (by omega) _ b hi hL, hfg, toNat_imm8]

/-- R265 to R267: a handler that shifts each element of its first source by the element of the second. -/
theorem vecResult_perElement {w : Nat} {make : Desc → Instr} {f g : BitVec w → Nat → BitVec w}
    (hfg : ∀ a c, f a c = g a c) (hruns : Runs make (vecBinary w (perElement w f))) (hw : 8 ≤ w := by decide) :
    VecResult make (pairwise Desc.src1 fun a b => g a b.toNat) :=
  vecResult_map2 hw (fun a b => hfg a b.toNat) hruns

/-- Settles O26: the shift of each element by the low byte of the immediate, or by the element of the second source. -/
theorem vectorShifts : Obligations.VectorShifts := by
  unfold Obligations.VectorShifts
  intro byImm byElement
  refine ⟨⟨vecResult_vecShift shlL_eq ?_, vecResult_vecShift shlL_eq ?_, vecResult_vecShift shlL_eq ?_,
      vecResult_vecShift shrL_eq ?_, vecResult_vecShift shrL_eq ?_, vecResult_vecShift shrL_eq ?_,
      vecResult_vecShift sarL_eq ?_, vecResult_vecShift sarL_eq ?_, vecResult_vecShift sarL_eq ?_⟩,
    vecResult_perElement shlL_eq ?_, vecResult_perElement shlL_eq ?_, vecResult_perElement shlL_eq ?_,
    vecResult_perElement shrL_eq ?_, vecResult_perElement shrL_eq ?_, vecResult_perElement shrL_eq ?_,
    vecResult_perElement sarL_eq ?_, vecResult_perElement sarL_eq ?_, vecResult_perElement sarL_eq ?_⟩
  all_goals exact fun _ => ⟨rfl, _, rfl, fun _ => rfl⟩

theorem dvd_vlBits (d : Desc) : 128 ∣ d.vlBits :=
  ⟨2 ^ d.vl.toNat, Nat.shiftLeft_eq _ _⟩

/-- Settles O27: the selectors stay within the group of 128 bits of the element they select for. -/
theorem vectorShuffles : Obligations.VectorShuffles := by
  have hvpshufd : Runs .vpshufd vpshufdBody := fun _ => ⟨rfl, _, rfl, fun _ => rfl⟩
  have hvpshufb : Runs .vpshufb (vecBinary 8 pshufb) := fun _ => ⟨rfl, _, rfl, fun _ => rfl⟩
  exact ⟨vecResult_of_maskedWrite (by decide) hvpshufd (fun _ _ => rfl) fun d _ b hL _ hi => lane_pshufd d b hL hi,
    vecResult_of_maskedWrite (by decide) hvpshufb (fun _ _ => rfl) fun d _ b hL _ hi =>
      lane_pshufb _ b hL (dvd_vlBits d) hi⟩

/-- R171: the register is the value below `L` and 0 above. -/
theorem zeroingWrite_writeRegZ (s : State) (d : Desc) (L : Nat) {w : Nat} {v : Packed} {res : Nat → BitVec w}
    (hres : ∀ i < L / w, lane w v i = res i) :
    ZeroingWrite ((s.writeRegZ d.dst L v).advance d.ilen) d.dst.toNat L w res := by
  have hvreg : ((s.writeRegZ d.dst L v).advance d.ilen).vreg d.dst.toNat = lowBits L v := by
    rw [State.advance_vreg, State.writeRegZ, State.vreg_setVreg, if_pos rfl]
  refine ⟨fun i hi => ?_, fun j _ hj => ?_⟩
  · rw [hvreg, lane_lowBits _ (lane_end_le hi), hres i hi]
  · rw [hvreg, getLsbD_lowBits, decide_eq_false (not_lt.2 hj), Bool.and_false]

/-- R171: a handler that leaves `s₁` with the whole of its destination written. -/
theorem Runs.exec_writeRegZ {w : Nat} {make : Desc → Instr} {body : Desc → State → Access Unit} {d : Desc}
    {s s₁ : State} {v : Packed} {res : Nat → BitVec w} (hruns : Runs make body) (hready : Ready s (make d))
    (hbody : body d s = .ok () (s₁.writeRegZ d.dst d.vlBits v)) (hres : ∀ i < d.vlBits / w, lane w v i = res i) :
    ∃ t, exec (make d) s = .next t ∧ ZeroingWrite t d.dst.toNat d.vlBits w res ∧ KeepsFlags s₁ t ∧
      Frame s₁ t d [] [d.dst.toNat] [] := by
  refine ⟨(s₁.writeRegZ d.dst d.vlBits v).advance d.ilen, ?_, zeroingWrite_writeRegZ s₁ d _ hres, ⟨rfl, rfl⟩,
    frame_setVreg s₁ d _⟩
  rw [hruns.exec_eq hready, hbody, Access.finish_ok]

/-- R256, R257: a handler of two operands whose operation is element-wise. -/
theorem zeroingResult_of_laneWise {w : Nat} {make : Desc → Instr} {op : PackedOp} {f : BitVec w → BitVec w → BitVec w}
    (hop : LaneWise w op f) (hruns : Runs make (vecCompare op)) : ZeroingResult make (pairwise Desc.src1 f) := by
  intro d s s₁ b hready hsrc
  refine hruns.exec_writeRegZ hready (by rw [vecCompare, hsrc, Access.bind_ok]) fun i hi => ?_
  rw [hop _ _ _ i (hruns.vlBits_le hready) hi, lane_lowBits _ (lane_end_le hi)]
  rfl

/-- R159: a comparison of two operands. -/
theorem zeroingResult_cmpLanes {w : Nat} {make : Desc → Instr} {pred : BitVec w → BitVec w → Bool}
    {f : BitVec w → BitVec w → BitVec w} (hpred : ∀ a b, (if pred a b then BitVec.allOnes w else 0#w) = f a b)
    (hruns : Runs make (vecCompare (cmpLanes w pred))) (hw : 0 < w := by decide) :
    ZeroingResult make (pairwise Desc.src1 f) :=
  zeroingResult_of_laneWise (laneWise_map2 hw hpred) hruns

/-- Settles O28: each comparison is element-wise and writes the whole register. -/
theorem vectorCompares : Obligations.VectorCompares := by
  unfold Obligations.VectorCompares
  intro eq gt
  refine ⟨⟨zeroingResult_cmpLanes ones_of_eqP ?_, zeroingResult_cmpLanes ones_of_eqP ?_,
      zeroingResult_cmpLanes ones_of_eqP ?_, zeroingResult_cmpLanes ones_of_eqP ?_⟩,
    zeroingResult_cmpLanes ones_of_gtS ?_, zeroingResult_cmpLanes ones_of_gtS ?_, zeroingResult_cmpLanes ones_of_gtS ?_,
    zeroingResult_cmpLanes ones_of_gtS ?_⟩
  all_goals exact fun _ => ⟨rfl, _, rfl, fun _ => rfl⟩

end Sys2Proof.Machine
end

section
/-! Whole stores of a vector register (spec/44_simd_int.md R279, spec/20_memory.md R82). -/

namespace Sys2Proof.Machine

/-- A store of the low bits of a value is a store of that value's bytes, where they lie below those bits. -/
theorem StoredBytes.of_lowBits {s t : State} {a : Word} {n L : Nat} {v : Packed}
    (h : StoredBytes s t a n (lowBits L v)) (hL : 8 * n ≤ L) : StoredBytes s t a n v := by
  obtain ⟨hstored, hkept⟩ := h
  exact ⟨fun i hi => (hstored i hi).trans (lane_lowBits v (by omega)), hkept⟩

/-- R279: a handler that stores `n` bytes of a value at `addr`, in ordinary memory and without a fault. -/
theorem Runs.exec_memWrite {make : Desc → Instr} {body : Desc → State → Access Unit} {d : Desc} {s : State} {n L : Nat}
    {v : Packed} (hruns : Runs make body) (hready : Ready s (make d)) (ht : s.target d.addr n = .memory)
    (hf : memFaultOf s.memFaults true d.addr n = none) (hbody : body d s = s.memWrite d.addr n (lowBits L v))
    (hn : n ≤ 64) (hL : 8 * n ≤ L) :
    ∃ t, exec (make d) s = .next t ∧ t.rip = s.rip + d.ilen.setWidth 64 ∧ StoredBytes s t d.addr n v ∧
      KeepsRegisters s t [] [] [] ∧ KeepsFlags s t ∧ KeepsOutside s t := by
  have hstored := (storedBytes_writeBytes s d.addr (lowBits L v) hn).of_lowBits hL
  refine ⟨State.advance { s with mem := Memory.writeBytes s.mem d.addr (lowBits L v) n } d.ilen, ?_, rfl,
    hstored.of_keepsMemory fun _ => rfl, ⟨fun _ _ _ => rfl, fun _ _ _ => rfl, fun _ _ _ => rfl⟩, ⟨rfl, rfl⟩,
    ⟨rfl, rfl, rfl, rfl, rfl, rfl, rfl, rfl, rfl, rfl⟩⟩
  rw [hruns.exec_eq hready, hbody, memWrite_of_memory ht hf, Access.finish_ok]

/-- Settles O24: the one store of MOVDQU. -/
theorem sseStore : Obligations.SseStore := by
  intro d s hready ht hf
  have hruns : Runs .movdquSt movdquStore := fun _ => ⟨rfl, _, rfl, fun _ => rfl⟩
  exact hruns.exec_memWrite hready ht hf rfl (by decide) (by decide)

end Sys2Proof.Machine
end

section
/-! Loads of a vector register under a mask (spec/44_simd_int.md R279, spec/20_memory.md R89). -/

namespace Sys2Proof.Machine

/-! The selected elements. -/

/-- R172: the elements that the mask bits select are those of the statements. -/
theorem selected_maskBits (s : State) (d : Desc) {n : Nat} (hn : n ≤ 64) :
    selected (s.maskBits d n) n = (List.range n).filter (selects s d) :=
  List.filter_congr fun _ hi => getLsbD_maskBits s d (List.mem_range.1 hi) hn

theorem rank_maskBits (s : State) (d : Desc) {n i : Nat} (hi : i ≤ n) (hn : n ≤ 64) :
    rank (s.maskBits d n) i = (List.range i).countP (selects s d) :=
  List.countP_congr fun j hj => by rw [getLsbD_maskBits s d ((List.mem_range.1 hj).trans_le hi) hn]

theorem lane_scatter {w n i : Nat} {k : Word} (hw : 0 < w) (es : List (BitVec w)) (hi : i < n) (hn : w * n ≤ 512)
    (hk : k.getLsbD i = true) : lane w (scatter w k n es) i = es.getD (rank k i) 0#w := by
  rw [scatter, lane_packLanes hw _ hi hn, if_pos hk]

section
variable {w : Nat} {make : Desc → Instr} {d : Desc} {s s₁ : State}

/-- R173: the elements of a masked result that the mask does not select play no part. -/
theorem MaskedResult.congr {t : State} {f g : Nat → BitVec w} (h : MaskedResult s t d w f)
    (hfg : ∀ i < d.vlBits / w, selects s d i = true → f i = g i) : MaskedResult s t d w g := by
  obtain ⟨hlanes, hupper⟩ := h
  refine ⟨fun i hi => (hlanes i hi).trans ?_, hupper⟩
  cases hsel : selects s d i
  · rfl
  · exact hfg i hi hsel

/-- R246: a handler that leaves `s₁`, what reads of `s` left, with `v` written to its destination under the mask. -/
theorem Runs.exec_maskedWrite {body : Desc → State → Access Unit} {v : Packed} (hruns : Runs make body) (hw : 8 ≤ w)
    (hready : Ready s (make d)) (hread : LapicOnly s s₁) (hbody : body d s = .ok () (s₁.maskedWrite w v d)) :
    ∃ t, exec (make d) s = .next t ∧ MaskedResult s t d w (lane w v) ∧ KeepsFlags s₁ t ∧
      Frame s₁ t d [] [d.dst.toNat] [] := by
  refine ⟨(s₁.maskedWrite w v d).advance d.ilen, ?_, maskedResult_maskedWrite hw (hruns.vlBits_le hready) hread v,
    ⟨rfl, rfl⟩, frame_setVreg s₁ d _⟩
  rw [hruns.exec_eq hready, hbody, Access.finish_ok]

/-! The two forms of the load. -/

theorem vmovdquLoad_whole {b : Packed} (hform : d.memform = false ∨ d.opmask = 0#3)
    (hsrc : s.srcV d.vlBits d d.src2 = .ok b s₁) : vmovdquLoad w d s = .ok () (s₁.maskedWrite w b d) := by
  have hwhole : (d.memform && d.opmask != 0#3) = false := by
    rcases hform with h | h <;> simp [h]
  rw [vmovdquLoad, hwhole, if_neg Bool.false_ne_true, hsrc, Access.bind_ok]

theorem vmovdquLoad_elements {es : List (BitVec w)} (hmem : d.memform = true) (hmask : d.opmask ≠ 0#3)
    (hread : s.readElements w ((s.selectedOf w d).map (elementAddr w d.addr)) = .ok es s₁) :
    vmovdquLoad w d s =
      .ok () (s₁.maskedWrite w (scatter w (s.maskBits d (d.vlBits / w)) (d.vlBits / w) es) d) := by
  have helements : (d.memform && d.opmask != 0#3) = true := by simp [hmem, hmask]
  rw [vmovdquLoad, if_pos helements, hread, Access.bind_ok]

/-- R89: the element of rank `j` among the selected ones is the `j`-th element read. -/
theorem Runs.exec_vmovdquLoad_elements {es : List (BitVec w)} (hruns : Runs make (vmovdquLoad w)) (hw : 8 ≤ w)
    (hready : Ready s (make d)) (hmem : d.memform = true) (hmask : d.opmask ≠ 0#3)
    (hread : s.readElements w (((List.range (d.vlBits / w)).filter (selects s d)).map (elementAddr w d.addr)) =
      .ok es s₁) :
    ∃ t, exec (make d) s = .next t ∧
      MaskedResult s t d w (fun i => es.getD ((List.range i).countP (selects s d)) 0#w) ∧ KeepsFlags s₁ t ∧
      Frame s₁ t d [] [d.dst.toNat] [] := by
  have hL := hruns.vlBits_le hready
  have hcount : d.vlBits / w ≤ 64 := Nat.div_le_of_le_mul (by omega)
  have hbody := vmovdquLoad_elements hmem hmask
    (by rwa [State.selectedOf, selected_maskBits s d hcount] : s.readElements w _ = .ok es s₁)
  obtain ⟨t, hexec, hresult, hrest⟩ := hruns.exec_maskedWrite hw hready (.readElements hread) hbody
  refine ⟨t, hexec, hresult.congr fun i hi hsel => ?_, hrest⟩
  rw [lane_scatter (by omega) es hi ((Nat.mul_div_le _ w).trans hL) ((getLsbD_maskBits s d hi hcount).trans hsel),
    rank_maskBits s d hi.le hcount]

end

/-- Settles O29: one operand, or the selected elements, scattered to their places. -/
theorem vectorLoads : Obligations.VectorLoads := by
  unfold Obligations.VectorLoads
  intro loads
  have hloads {w : Nat} {make : Desc → Instr} (hruns : Runs make (vmovdquLoad w)) (hw : 8 ≤ w := by decide) :
      loads w make :=
    ⟨fun _ _ _ _ hready hform hsrc => hruns.exec_maskedWrite hw hready (.srcV hsrc) (vmovdquLoad_whole hform hsrc),
      fun _ _ _ _ hready hmem hmask hread => hruns.exec_vmovdquLoad_elements hw hready hmem hmask hread⟩
  refine ⟨hloads ?_, hloads ?_, hloads ?_, hloads ?_⟩
  all_goals exact fun _ => ⟨rfl, _, rfl, fun _ => rfl⟩

end Sys2Proof.Machine
end

section
/-! Stores of elements (spec/20_memory.md R82, R89, spec/44_simd_int.md R279). -/

namespace Sys2Proof.Machine

/-! Where the stores of a sequence go. -/

theorem target_eq_memory_iff {s : State} {a : Word} {n : Nat} :
    s.target a n = .memory ↔ ¬ (s.cpu.lapic.mode = .xapic ∧ ((a - s.cfg.apicBase).toNat < 0x1000 ∨
      (a + BitVec.ofNat 64 (n - 1) - s.cfg.apicBase).toNat < 0x1000)) := by
  unfold State.target
  dsimp only
  split
  · next hinside =>
    refine ⟨fun h => ?_, fun h => absurd hinside h⟩
    split at h <;> cases h
  · next houtside => exact ⟨fun _ => houtside, fun _ => rfl⟩

/-- R86: an access that goes to memory still does after a store. A store in the window is made in XAPIC mode, so an access
that goes to memory then has no byte in the window. -/
theorem memWrite_target {s t : State} {a b : Word} {n m : Nat} {v : Packed} (h : s.memWrite a n v = .ok () t)
    (hb : s.target b m = .memory) : t.target b m = .memory := by
  obtain ⟨-, -, rfl⟩ | ⟨slot, hwindow, hmmio⟩ := memWrite_ok h
  · exact hb
  · have hmode : s.cpu.lapic.mode = .xapic := by
      by_contra hmode
      cases hwindow.symm.trans (target_of_not_xapic hmode)
    rw [target_eq_memory_iff] at hb ⊢
    rw [(LapicOnly.mmioWrite hmmio).cfg]
    exact fun ⟨_, hinside⟩ => hb ⟨hmode, hinside⟩

/-! What a sequence of stores leaves. -/

section
variable {w : Nat} {s t : State}

theorem writeElements_cons_eq_ok {e : Word × BitVec w} {es : List (Word × BitVec w)} :
    s.writeElements w (e :: es) = .ok () t ↔
      ∃ u, s.memWrite e.1 (w / 8) (e.2.setWidth 512) = .ok () u ∧ u.writeElements w es = .ok () t :=
  Access.bind_eq_ok.trans ⟨fun ⟨_, u, h⟩ => ⟨u, h⟩, fun ⟨u, h⟩ => ⟨(), u, h⟩⟩

theorem StoresOf.writeElements {es : List (Word × BitVec w)} (h : s.writeElements w es = .ok () t) : StoresOf s t := by
  induction es generalizing s with
  | nil => cases h; exact .refl _
  | cons e es ih =>
    obtain ⟨u, hu, ht⟩ := writeElements_cons_eq_ok.1 h
    exact (StoresOf.memWrite hu).trans (ih ht)

/-- A byte outside the elements stored reads as it did. -/
theorem writeElements_byteAt_of_ne {es : List (Word × BitVec w)} (h : s.writeElements w es = .ok () t) {b : Word}
    (hb : ∀ e ∈ es, ∀ j < w / 8, b ≠ e.1 + BitVec.ofNat 64 j) : t.byteAt b = s.byteAt b := by
  induction es generalizing s with
  | nil => cases h; rfl
  | cons e es ih =>
    obtain ⟨u, hu, ht⟩ := writeElements_cons_eq_ok.1 h
    exact (ih ht fun f hf => hb f (List.mem_cons_of_mem _ hf)).trans (memWrite_byteAt_of_ne hu (hb e List.mem_cons_self))

/-- An element stored in ordinary memory reads back, where no other element of the sequence has a byte in common with
it. -/
theorem writeElements_byteAt {es : List (Word × BitVec w)} (h : s.writeElements w es = .ok () t)
    {e : Word × BitVec w} (he : e ∈ es) (htarget : s.target e.1 (w / 8) = .memory) (hw : w / 8 ≤ 64)
    (hdisjoint : ∀ f ∈ es, f ≠ e → ∀ i < w / 8, ∀ j < w / 8, e.1 + BitVec.ofNat 64 i ≠ f.1 + BitVec.ofNat 64 j)
    {i : Nat} (hi : i < w / 8) : t.byteAt (e.1 + BitVec.ofNat 64 i) = lane 8 (e.2.setWidth 512) i := by
  induction es generalizing s with
  | nil => cases he
  | cons f es ih =>
    obtain ⟨u, hu, ht⟩ := writeElements_cons_eq_ok.1 h
    by_cases htail : e ∈ es
    · exact ih ht htail (memWrite_target hu htarget) fun g hg => hdisjoint g (List.mem_cons_of_mem _ hg)
    · obtain rfl : e = f := (List.mem_cons.1 he).resolve_right htail
      obtain ⟨hstored, -⟩ := memWrite_storedBytes hu hw htarget
      refine (writeElements_byteAt_of_ne ht fun g hg => ?_).trans (hstored i hi)
      exact hdisjoint g (List.mem_cons_of_mem _ hg) (fun heq => htail (heq ▸ hg)) i hi

end

/-! The elements of a packed operand in memory (R83). -/

/-- Different elements of an operand have no byte in common. -/
theorem elementAddr_add_inj {w : Nat} {a : Word} {i i' j j' : Nat} (hi : (i + 1) * (w / 8) ≤ 64)
    (hi' : (i' + 1) * (w / 8) ≤ 64) (hj : j < w / 8) (hj' : j' < w / 8)
    (h : elementAddr w a i + BitVec.ofNat 64 j = elementAddr w a i' + BitVec.ofNat 64 j') : i = i' := by
  simp only [elementAddr, BitVec.add_assoc, ← BitVec.ofNat_add] at h
  rw [Nat.succ_mul] at hi hi'
  have hoffsets := byteAddr_inj (by omega) (by omega) (congrArg BitVec.toNat h)
  have hquotient (i : Nat) {j : Nat} (hj : j < w / 8) : (i * (w / 8) + j) / (w / 8) = i := by
    rw [Nat.mul_comm, Nat.mul_add_div (Nat.zero_lt_of_lt hj), Nat.div_eq_of_lt hj, Nat.add_zero]
  rw [← hquotient i hj, hoffsets, hquotient i' hj']

/-- Byte `j` of element `i` is a byte of the packed value. -/
theorem lane_lane {w : Nat} (h8 : 8 ∣ w) (hw : w ≤ 512) (v : Packed) (i : Nat) {j : Nat} (hj : j < w / 8) :
    lane 8 ((lane w v i).setWidth 512) j = lane 8 v (i * (w / 8) + j) := by
  obtain ⟨m, rfl⟩ := h8
  rw [Nat.mul_div_cancel_left m (by decide)] at hj ⊢
  refine BitVec.eq_of_getLsbD_eq fun k hk => ?_
  have hbit : 8 * j + k < 8 * m := by omega
  have hplace : 8 * m * i + (8 * j + k) = 8 * (i * m + j) + k := by ring
  rw [getLsbD_lane, getLsbD_lane, BitVec.getLsbD_setWidth, getLsbD_lane, decide_eq_true hbit,
    decide_eq_true (hbit.trans_le hw), Bool.true_and, Bool.true_and, hplace]

/-! The stores. -/

theorem frame_advance (s : State) (d : Desc) : Frame s (s.advance d.ilen) d [] [] [] :=
  ⟨rfl, (KeepsRegisters.refl s _ _ _).advance _, fun _ => rfl, ⟨rfl, rfl, rfl, rfl, rfl, rfl, rfl, rfl, rfl, rfl⟩⟩

section
variable {w : Nat} {d : Desc} {s s₁ : State}

/-- R89: the elements that a masked store stores, each with its address. -/
theorem vmovdquStore_elements (hw : 8 ≤ w) (hL : d.vlBits ≤ 512) (hmask : d.opmask ≠ 0#3) :
    vmovdquStore w d s = s.writeElements w (((List.range (d.vlBits / w)).filter (selects s d)).map fun i =>
      (elementAddr w d.addr i, lane w (s.vreg d.src2.toNat) i)) := by
  rw [vmovdquStore, if_neg hmask, State.selectedOf, selected_maskBits s d (Nat.div_le_of_le_mul (by omega))]
  congr 1
  refine List.map_congr_left fun i hi => ?_
  obtain ⟨hlt, -⟩ := List.mem_filter.1 hi
  rw [lane_lowBits _ (lane_end_le (List.mem_range.1 hlt))]

/-- R82, R89: each element stored in ordinary memory reads back: it lies within 64 bytes, and apart from every other. -/
theorem writeElements_lane {L : Nat} {is : List Nat} {a : Word} {v : Packed} (h8 : 8 ∣ w) (hL : L ≤ 512)
    (his : ∀ i ∈ is, i < L / w)
    (h : s.writeElements w (is.map fun i => (elementAddr w a i, lane w v i)) = .ok () s₁) {i : Nat} (hi : i ∈ is)
    (htarget : s.target (elementAddr w a i) (w / 8) = .memory) {j : Nat} (hj : j < w / 8) :
    s₁.byteAt (elementAddr w a i + BitVec.ofNat 64 j) = lane 8 v (i * (w / 8) + j) := by
  have hend {k : Nat} (hk : k ∈ is) : (k + 1) * (w / 8) ≤ 64 := by
    obtain ⟨m, rfl⟩ := h8
    have hbits := lane_end_le (his k hk)
    have hbytes : 8 * m * k + 8 * m = 8 * ((k + 1) * m) := by ring
    rw [Nat.mul_div_cancel_left m (by decide)]
    omega
  have hw : w ≤ 512 := by
    have hbits := lane_end_le (his i hi)
    omega
  refine (writeElements_byteAt h (List.mem_map_of_mem hi) htarget (by omega) ?_ hj).trans (lane_lane h8 hw v i hj)
  intro f hf hne x hx y hy heq
  obtain ⟨k, hk, rfl⟩ := List.mem_map.1 hf
  exact hne (by rw [elementAddr_add_inj (hend hi) (hend hk) hx hy heq])

/-- R279: a store under a mask. -/
theorem Runs.exec_vmovdquStore_elements {make : Desc → Instr} (hruns : Runs make (vmovdquStore w)) (h8 : 8 ∣ w)
    (hw : 8 ≤ w) (hready : Ready s (make d)) (hmask : d.opmask ≠ 0#3) {sel : List Nat}
    (hsel : sel = (List.range (d.vlBits / w)).filter (selects s d))
    (hstore : s.writeElements w (sel.map fun i => (elementAddr w d.addr i, lane w (s.vreg d.src2.toNat) i)) = .ok () s₁) :
    ∃ t, exec (make d) s = .next t ∧ KeepsFlags s₁ t ∧ Frame s₁ t d [] [] [] ∧ KeepsRegisters s t [] [] [] ∧
      (∀ b : Word, (∀ i ∈ sel, ∀ j < w / 8, b ≠ elementAddr w d.addr i + BitVec.ofNat 64 j) → t.byteAt b = s.byteAt b) ∧
      ∀ i ∈ sel, s.target (elementAddr w d.addr i) (w / 8) = .memory →
        ∀ j < w / 8, t.byteAt (elementAddr w d.addr i + BitVec.ofNat 64 j) =
          lane 8 (s.vreg d.src2.toNat) (i * (w / 8) + j) := by
  have hL := hruns.vlBits_le hready
  refine ⟨s₁.advance d.ilen, ?_, ⟨rfl, rfl⟩, frame_advance s₁ d,
    (KeepsRegisters.of_ee_eq (StoresOf.writeElements hstore).ee).advance _, fun b hb => ?_, fun i hi ht j hj => ?_⟩
  · rw [hruns.exec_eq hready, vmovdquStore_elements hw hL hmask, ← hsel, hstore, Access.finish_ok]
  · refine writeElements_byteAt_of_ne hstore fun e he => ?_
    obtain ⟨i, hi, rfl⟩ := List.mem_map.1 he
    exact hb i hi
  · refine writeElements_lane h8 hL (fun k hk => ?_) hstore hi ht hj
    rw [hsel] at hk
    obtain ⟨hlt, -⟩ := List.mem_filter.1 hk
    exact List.mem_range.1 hlt

/-- R279: a store without a mask. -/
theorem vmovdquStore_whole (hmask : d.opmask = 0#3) :
    vmovdquStore w d s = s.memWrite d.addr (d.vlBits / 8) (lowBits d.vlBits (s.vreg d.src2.toNat)) := by
  rw [vmovdquStore, if_pos hmask]

end

/-- Settles O30: the whole operand in one store, or the selected elements one after another. -/
theorem vectorStores : Obligations.VectorStores := by
  unfold Obligations.VectorStores
  intro stores
  have hstores {w : Nat} {make : Desc → Instr} (hruns : Runs make (vmovdquStore w)) (h8 : 8 ∣ w := by decide)
      (hw : 8 ≤ w := by decide) : stores w make := by
    refine ⟨fun d s hready hmask ht hf => ?_, fun d s s₁ hready hmask => ?_⟩
    · have hL := hruns.vlBits_le hready
      exact hruns.exec_memWrite hready ht hf (vmovdquStore_whole hmask) (by omega) (Nat.mul_div_le _ 8)
    · exact hruns.exec_vmovdquStore_elements h8 hw hready hmask rfl
  refine ⟨hstores ?_, hstores ?_, hstores ?_, hstores ?_⟩
  all_goals exact fun _ => ⟨rfl, _, rfl, fun _ => rfl⟩

end Sys2Proof.Machine
end

section
/-! Writes of opmask registers: moves and comparisons to a mask (spec/45_avx512.md R290, R291, R296,
spec/40_primitives_flags_masking.md R155, R156, R159). -/

namespace Sys2Proof.Machine

/-! The destination. -/

section
variable {sh : Shape} {make : Desc → Instr} {body : Desc → State → Access Unit} {d : Desc} {s : State}

/-- R112: the destination field of a descriptor the machine runs names a register of its file. -/
theorem RunsAs.dst_lt_bound (hruns : RunsAs sh make body) (hready : Ready s (make d)) : d.dst.toNat < sh.dst.bound := by
  obtain ⟨-, -, -, -, -, -, hdst, -⟩ := malformed?_eq_none_iff.1 (hruns.malformed?_eq_none hready)
  exact hdst

end

/-- The frame of a handler that writes its destination in the opmask file and no more. -/
theorem frame_setKreg (s : State) {d : Desc} (hdst : d.dst.toNat < 8) (x : Word) :
    Frame s ((s.setKreg d.dst.toNat x).advance d.ilen) d [] [] [d.dst.toNat] := by
  refine ⟨rfl, ⟨fun i _ _ => rfl, fun i _ _ => rfl, fun i hi hne => ?_⟩, fun _ => rfl,
    ⟨rfl, rfl, rfl, rfl, rfl, rfl, rfl, rfl, rfl, rfl⟩⟩
  have hcells : ¬ d.dst.toNat % 8 = i % 8 := by
    rw [Nat.mod_eq_of_lt hdst, Nat.mod_eq_of_lt hi]
    exact fun h => hne (List.mem_singleton.2 h.symm)
  rw [State.advance_kreg, State.kreg_setKreg, if_neg hcells]

/-- R180: a handler that leaves `s₁` with `x` written to the opmask register it names. -/
theorem Runs.exec_setKreg {make : Desc → Instr} {body : Desc → State → Access Unit} {d : Desc} {s s₁ : State} {x : Word}
    (hruns : Runs make body) (hready : Ready s (make d)) (hdst : d.dst.toNat < 8)
    (hbody : body d s = .ok () (s₁.setKreg d.dst.toNat x)) :
    ∃ t, exec (make d) s = .next t ∧ t.kreg d.dst.toNat = x ∧ KeepsFlags s₁ t ∧ Frame s₁ t d [] [] [d.dst.toNat] := by
  refine ⟨(s₁.setKreg d.dst.toNat x).advance d.ilen, ?_, ?_, ⟨rfl, rfl⟩, frame_setKreg s₁ hdst x⟩
  · rw [hruns.exec_eq hready, hbody, Access.finish_ok]
  · rw [State.advance_kreg, State.kreg_setKreg, if_pos rfl]

/-! Moves. -/

/-- R12: a general register written at 32 or 64 bits with a value that is no wider holds that value. -/
theorem mergeGpr_setWidth {b w : Nat} (old : Word) (v : BitVec b) (hw : w ≠ 16) (hb : b ≤ w) :
    mergeGpr w old (v.setWidth w) = v.setWidth 64 := by
  rw [mergeGpr, if_neg hw, BitVec.setWidth_setWidth (fun h => hb.not_gt h.1)]

/-- Settles O37: each direction writes one register, the low bits of another. -/
theorem opmaskMoves : Obligations.OpmaskMoves := by
  unfold Obligations.OpmaskMoves
  intro toMask toGpr
  have hmask {b : Nat} {make : Desc → Instr} (hruns : RunsAs .kmovToMask make (kmovToMask b)) : toMask b make :=
    fun _ _ hready => hruns.runs.exec_setKreg hready (hruns.dst_lt_bound hready) rfl
  have hgpr {b w : Nat} {make : Desc → Instr} (hw : w ≠ 16) (hb : b ≤ w)
      (hruns : RunsAs .kmovToGpr make (kmovToGpr b w)) : toGpr b make := by
    intro d s hready
    refine ⟨(s.setX d.dst _).advance d.ilen, hruns.runs.exec_eq hready, ?_, ⟨rfl, rfl⟩,
      frame_setX s (hruns.dst_lt_bound hready) _⟩
    rw [State.advance_gpr, gpr_setX_same, mergeGpr_setWidth _ _ hw hb]
  have h32 : 32 ≠ 16 := by decide
  have h64 : 64 ≠ 16 := by decide
  refine ⟨⟨hmask ?_, hmask ?_, hmask ?_, hmask ?_⟩, hgpr h32 (by decide) ?_, hgpr h32 (by decide) ?_,
    hgpr h32 le_rfl ?_, hgpr h64 le_rfl ?_⟩
  all_goals exact ⟨fun _ => ⟨rfl, _, rfl, fun _ => rfl⟩, fun _ => rfl⟩

/-! Comparisons. -/

section
variable {w : Nat}

/-- R156: the predicate table, for the order that `lt` and `le` read. -/
def avx512Predicate (lt le : BitVec w → BitVec w → Bool) (p : Nat) (x y : BitVec w) : Bool :=
  match p with
  | 0 => decide (x = y)
  | 1 => lt x y
  | 2 => le x y
  | 3 => false
  | 4 => !decide (x = y)
  | 5 => !lt x y
  | 6 => !le x y
  | _ => true

theorem geS_eq_not_slt (x y : BitVec w) : geS x y = !x.slt y := BitVec.sle_eq_not_slt

theorem gtS_eq_not_sle (x y : BitVec w) : gtS x y = !x.sle y := by
  rw [BitVec.sle_eq_not_slt, Bool.not_not]
  rfl

theorem geU_eq_not_ult (x y : BitVec w) : geU x y = !x.ult y := BitVec.ule_eq_not_ult y x

theorem gtU_eq_not_ule (x y : BitVec w) : gtU x y = !x.ule y := by
  rw [BitVec.ule_eq_not_ult, Bool.not_not]
  rfl

theorem avx512CompareS_eq (p : BitVec 3) (x y : BitVec w) :
    avx512CompareS p x y = avx512Predicate BitVec.slt BitVec.sle p.toNat x y := by
  rw [avx512CompareS, geS_eq_not_slt, gtS_eq_not_sle]
  rfl

theorem avx512CompareU_eq (p : BitVec 3) (x y : BitVec w) :
    avx512CompareU p x y = avx512Predicate BitVec.ult BitVec.ule p.toNat x y := by
  rw [avx512CompareU, geU_eq_not_ult, gtU_eq_not_ule]
  rfl

/-- R290: the predicate is the low three bits of the immediate. -/
theorem toNat_predicate (d : Desc) : d.predicate.toNat = d.imm.toNat % 8 :=
  BitVec.toNat_setWidth 3 d.imm

/-- R159: bit `i` of a comparison is the predicate on elements `i`, and 0 from the element count up. -/
theorem getLsbD_cmpMask (pred : BitVec w → BitVec w → Bool) (L : Nat) (a b : Packed) {i : Nat} (hi : i < 64) :
    (cmpMask w pred L a b).getLsbD i = (decide (i < L / w) && pred (lane w a i) (lane w b i)) := by
  have h512 : i < 512 := hi.trans (by decide)
  rw [cmpMask, BitVec.getLsbD_setWidth, getLsbD_packLanes Nat.one_pos, Nat.one_mul, Nat.div_one, Nat.mod_one,
    BitVec.getLsbD_ofBool, decide_eq_true hi, decide_eq_true h512, decide_eq_true rfl, Bool.true_and, Bool.true_and,
    Bool.and_true]

/-- R290: bit `i` of what a comparison writes: the predicate under the write mask. -/
theorem getLsbD_cmpMask_and_maskBits (pred : BitVec w → BitVec w → Bool) (s : State) (d : Desc) (a b : Packed)
    (hcount : d.vlBits / w ≤ 64) {i : Nat} (hi : i < 64) :
    (cmpMask w pred d.vlBits (lowBits d.vlBits a) b &&& s.maskBits d (d.vlBits / w)).getLsbD i =
      (decide (i < d.vlBits / w) && selects s d i && pred (lane w a i) (lane w b i)) := by
  rw [BitVec.getLsbD_and, getLsbD_cmpMask pred d.vlBits _ b hi]
  by_cases hlt : i < d.vlBits / w
  · rw [lane_lowBits a (lane_end_le hlt), getLsbD_maskBits s d hlt hcount, Bool.and_right_comm]
  · rw [decide_eq_false hlt, Bool.false_and, Bool.false_and, Bool.false_and, Bool.false_and]

end

/-- Settles O31: the predicate of each pair of elements under the write mask, written to the opmask file. -/
theorem compareToMask : Obligations.CompareToMask := by
  unfold Obligations.CompareToMask
  intro compares
  have hcompares {w : Nat} {make : Desc → Instr} {pred : BitVec 3 → BitVec w → BitVec w → Bool}
      {lt le : BitVec w → BitVec w → Bool} (hpred : ∀ p x y, pred p x y = avx512Predicate lt le p.toNat x y)
      (hruns : RunsAs .maskCompare make (maskCompare w pred)) (hw : 8 ≤ w := by decide) : compares w make lt le := by
    intro d s s₁ b hready hsrc
    have hL := hruns.runs.vlBits_le hready
    obtain ⟨t, hexec, hkreg, hrest⟩ := hruns.runs.exec_setKreg hready (hruns.dst_lt_bound hready)
      (by rw [maskCompare, hsrc, Access.bind_ok])
    refine ⟨t, hexec, fun i hi => ?_, hrest⟩
    rw [hkreg, getLsbD_cmpMask_and_maskBits _ s d _ b (Nat.div_le_of_le_mul (by omega)) hi, hpred, toNat_predicate]
    rfl
  refine ⟨⟨hcompares avx512CompareS_eq ?_, hcompares avx512CompareS_eq ?_, hcompares avx512CompareS_eq ?_,
      hcompares avx512CompareS_eq ?_⟩,
    hcompares avx512CompareU_eq ?_, hcompares avx512CompareU_eq ?_, hcompares avx512CompareU_eq ?_,
    hcompares avx512CompareU_eq ?_⟩
  all_goals exact ⟨fun _ => ⟨rfl, _, rfl, fun _ => rfl⟩, fun _ => rfl⟩

end Sys2Proof.Machine
end

section
/-! Permutation and alignment (spec/45_avx512.md R294, R295). -/

namespace Sys2Proof.Machine

section
variable {w L i : Nat}

/-- R294: the index is an element of the first operand, taken modulo the element count. -/
theorem lane_vperm (hw : 0 < w) (a b : Packed) (hL : L ≤ 512) (hi : i < L / w) :
    lane w (vperm w L (lowBits L a) b) i = lane w b ((lane w a i).toNat % (L / w)) := by
  rw [vperm, lane_packLanes hw _ hi ((Nat.mul_div_le L w).trans hL), lane_lowBits a (lane_end_le hi)]

/-- R295: an element of the concatenation stands in the low or in the high half. -/
theorem lane_valign (hw : 0 < w) (imm : BitVec 8) (a b : Packed) (hL : L ≤ 512) (hi : i < L / w) :
    lane w (valign w imm L (lowBits L a) b) i =
      if i + imm.toNat % (L / w) < L / w then lane w b (i + imm.toNat % (L / w))
      else lane w a (i + imm.toNat % (L / w) - L / w) := by
  have hshift : imm.toNat % (L / w) < L / w := Nat.mod_lt _ (Nat.zero_lt_of_lt hi)
  have hhigh : i + imm.toNat % (L / w) - L / w < L / w := by omega
  rw [valign, lane_packLanes hw _ hi ((Nat.mul_div_le L w).trans hL)]
  dsimp only
  rw [lane_lowBits a (lane_end_le hhigh)]

end

/-- Settles O36: each handler reads its second source and writes, under the mask, elements picked from its operands. -/
theorem permuteAndAlign : Obligations.PermuteAndAlign := by
  unfold Obligations.PermuteAndAlign
  intro permute align
  have hpermute {w : Nat} {make : Desc → Instr} (hruns : Runs make (vecBinary w (vperm w))) (hw : 8 ≤ w := by decide) :
      VecResult make (permute w) :=
    vecResult_of_maskedWrite hw hruns (fun _ _ => rfl) fun d s b hL _ hi =>
      lane_vperm (by omega) (s.vreg d.src1.toNat) b hL hi
  have halign {w : Nat} {make : Desc → Instr} (hruns : Runs make (valignBody w)) (hw : 8 ≤ w := by decide) :
      VecResult make (align w) := by
    refine vecResult_of_maskedWrite hw hruns (fun _ _ => rfl) fun d s b hL i hi => ?_
    rw [lane_valign (by omega) _ _ b hL hi, toNat_imm8]
  refine ⟨⟨hpermute ?_, hpermute ?_, hpermute ?_, hpermute ?_⟩, halign ?_, halign ?_⟩
  all_goals exact fun _ => ⟨rfl, _, rfl, fun _ => rfl⟩

end Sys2Proof.Machine
end

section
/-! Compression and expansion (spec/45_avx512.md R292, R293, spec/20_memory.md R89): the element of rank `j` among the selected
ones is paired with place `j` of the packed value. -/

namespace Sys2Proof.Machine

/-! The selected elements and their ranks. -/

section
variable {p : Nat → Bool} {i n : Nat}

/-- Below `n` the selected elements are those below `i`, then `i`, then others. -/
theorem filter_range_eq_append (hi : i < n) (hp : p i = true) :
    ∃ rest, (List.range n).filter p = (List.range i).filter p ++ i :: rest := by
  obtain ⟨k, rfl⟩ := Nat.exists_eq_add_of_lt hi
  refine ⟨((List.range k).map fun j => i + (j + 1)).filter p, ?_⟩
  rw [Nat.add_assoc, List.range_add, List.filter_append, List.range_succ_eq_map, List.map_cons, List.map_map,
    Nat.add_zero, List.filter_cons_of_pos hp]
  rfl

theorem countP_range_lt_length_filter (hi : i < n) (hp : p i = true) :
    (List.range i).countP p < ((List.range n).filter p).length := by
  obtain ⟨rest, hsplit⟩ := filter_range_eq_append hi hp
  rw [hsplit, List.length_append, List.length_cons, List.countP_eq_length_filter]
  omega

/-- The selected element of the rank of `i` is `i`. -/
theorem getD_filter_range_countP (hi : i < n) (hp : p i = true) (default : Nat) :
    ((List.range n).filter p).getD ((List.range i).countP p) default = i := by
  obtain ⟨rest, hsplit⟩ := filter_range_eq_append hi hp
  rw [hsplit, List.countP_eq_length_filter, List.getD_append_right _ _ _ _ le_rfl, Nat.sub_self]
  rfl

/-- The selected element of a rank is one of the elements. -/
theorem getD_filter_range_lt {j : Nat} (hj : j < ((List.range n).filter p).length) (default : Nat) :
    ((List.range n).filter p).getD j default < n := by
  rw [List.getD_eq_getElem _ _ hj]
  obtain ⟨hlt, -⟩ := List.mem_filter.1 (List.getElem_mem hj)
  exact List.mem_range.1 hlt

theorem length_filter_range_le (p : Nat → Bool) (n : Nat) : ((List.range n).filter p).length ≤ n :=
  (List.length_filter_le _ _).trans_eq List.length_range

theorem countP_range_lt (hi : i < n) (hp : p i = true) : (List.range i).countP p < n :=
  (countP_range_lt_length_filter hi hp).trans_le (length_filter_range_le p n)

end

/-- A list run through with the places of its elements. -/
theorem map_zipIdx_eq_map_range {α β : Type} (l : List α) (default : α) (f : α → Nat → β) :
    (l.zipIdx.map fun e => f e.1 e.2) = (List.range l.length).map fun j => f (l.getD j default) j := by
  refine List.ext_getElem (by simp) fun j hj _ => ?_
  have hlt : j < l.length := by simpa using hj
  simp [List.getElem_zipIdx, hlt]

/-- R172: the elements that the model selects are those of the statements. -/
theorem selectedOf_eq {w : Nat} (hw : 8 ≤ w) {d : Desc} (hL : d.vlBits ≤ 512) (s : State) :
    s.selectedOf w d = (List.range (d.vlBits / w)).filter (selects s d) :=
  selected_maskBits s d (Nat.div_le_of_le_mul (by omega))

/-! Compression. -/

section
variable {w : Nat} {make : Desc → Instr} {d : Desc} {s s₁ : State}

theorem lane_compress {n j : Nat} {k : Word} (hw : 0 < w) (src : Packed) (hj : j < (selected k n).length)
    (hn : w * n ≤ 512) : lane w (compress w k n src) j = lane w src ((selected k n).getD j 0) :=
  lane_packLanes hw _ hj ((Nat.mul_le_mul_left w (length_filter_range_le _ n)).trans hn)

/-- R292, R173: what a compression leaves in the destination, where `sel` are the selected elements. -/
def CompressedResult (s t : State) (d : Desc) (w : Nat) (sel : List Nat) : Prop :=
  (∀ j < d.vlBits / w, lane w (t.vreg d.dst.toNat) j =
    if j < sel.length then lane w (s.vreg d.src2.toNat) (sel.getD j 0)
    else if d.zmask then 0#w else lane w (s.vreg d.dst.toNat) j) ∧
  ∀ j < 512, d.vlBits ≤ j → (t.vreg d.dst.toNat).getLsbD j =
    (decide (d.opmask ≠ 0#3) && !d.zmask && decide (s.cfg.mergeUpper = .preserve) && (s.vreg d.dst.toNat).getLsbD j)

/-- R172: without a mask every element is selected. -/
theorem filter_selects_of_unmasked (s : State) (hmask : d.opmask = 0#3) (n : Nat) :
    (List.range n).filter (selects s d) = List.range n :=
  List.filter_eq_self.2 fun _ _ => by rw [selects, decide_eq_true hmask, Bool.true_or]

/-- R292: a masked write whose mask bits are the low ones keeps, or clears, the elements above the packed ones. -/
theorem compressedResult_maskedWriteWith {sel : List Nat} {v : Packed} (hw : 8 ≤ w) (hL : d.vlBits ≤ 512)
    (hsel : sel = (List.range (d.vlBits / w)).filter (selects s d))
    (hv : ∀ j < sel.length, lane w v j = lane w (s.vreg d.src2.toNat) (sel.getD j 0)) :
    CompressedResult s ((s.maskedWriteWith w (lowOnes 64 sel.length) v d).advance d.ilen) d w sel := by
  have hpos : 0 < w := by omega
  have hcount : d.vlBits / w ≤ 64 := Nat.div_le_of_le_mul (by omega)
  have hvreg : ((s.maskedWriteWith w (lowOnes 64 sel.length) v d).advance d.ilen).vreg d.dst.toNat =
      maskedValue s.cfg.mergeUpper d.maskState w d.vlBits (lowOnes 64 sel.length) v (s.vreg d.dst.toNat) := by
    rw [State.advance_vreg, State.maskedWriteWith, State.vreg_setVreg, if_pos rfl]
  refine ⟨fun j hj => ?_, fun j _ hj => ?_⟩
  · have hones : (lowOnes 64 sel.length).getLsbD j = decide (j < sel.length) := by
      rw [getLsbD_lowOnes, decide_eq_true (hj.trans_le hcount), Bool.true_and]
    rw [hvreg, lane_maskedValue hpos hL _ _ _ _ _ hj, hones]
    by_cases hpacked : j < sel.length
    · simp only [hpacked, decide_true, if_true, hv j hpacked]
      cases d.maskState <;> rfl
    · have hmask : d.opmask ≠ 0#3 := by
        rintro hmask
        rw [hsel, filter_selects_of_unmasked s hmask, List.length_range] at hpacked
        exact hpacked hj
      cases hz : d.zmask <;> simp [Desc.maskState, hmask, hz, hpacked]
  · rw [hvreg, getLsbD_maskedValue_of_ge hpos _ _ _ _ _ hj]
    simp only [maskState_eq_mergeMasked_iff, Bool.decide_and]
    cases d.zmask <;> simp

/-- The elements a compression packs, seen in the whole register. -/
theorem lane_compress_maskBits (hw : 8 ≤ w) (hL : d.vlBits ≤ 512) {j : Nat} {sel : List Nat}
    (hsel : sel = (List.range (d.vlBits / w)).filter (selects s d)) (hj : j < sel.length) :
    lane w (compress w (s.maskBits d (d.vlBits / w)) (d.vlBits / w) (lowBits d.vlBits (s.vreg d.src2.toNat))) j =
      lane w (s.vreg d.src2.toNat) (sel.getD j 0) := by
  have hselected : selected (s.maskBits d (d.vlBits / w)) (d.vlBits / w) = sel :=
    (selectedOf_eq hw hL s).trans hsel.symm
  rw [lane_compress (by omega) _ (hselected ▸ hj) ((Nat.mul_div_le _ w).trans hL), hselected]
  subst hsel
  exact lane_lowBits _ (lane_end_le (getD_filter_range_lt hj 0))

/-- R292: VPCOMPRESS to a register. -/
theorem Runs.exec_compress_register (hruns : Runs make (compressBody w)) (hw : 8 ≤ w) (hready : Ready s (make d))
    (hreg : d.memform = false) :
    ∃ t, exec (make d) s = .next t ∧
      CompressedResult s t d w ((List.range (d.vlBits / w)).filter (selects s d)) ∧ KeepsFlags s t ∧
      Frame s t d [] [d.dst.toNat] [] := by
  have hL := hruns.vlBits_le hready
  refine ⟨_, ?_, compressedResult_maskedWriteWith hw hL rfl fun j hj => lane_compress_maskBits hw hL rfl hj,
    ⟨rfl, rfl⟩, frame_setVreg s d _⟩
  rw [hruns.exec_eq hready, compressBody, hreg, if_neg Bool.false_ne_true, selectedOf_eq hw hL, Access.finish_ok]

/-- R89, R292: VPCOMPRESS to memory stores the packed elements, each at its place. -/
theorem compressBody_memory (hw : 8 ≤ w) (hL : d.vlBits ≤ 512) (hmem : d.memform = true) {sel : List Nat}
    (hsel : sel = (List.range (d.vlBits / w)).filter (selects s d)) :
    compressBody w d s = s.writeElements w ((List.range sel.length).map fun j =>
      (elementAddr w d.addr j, lane w (s.vreg d.src2.toNat) (sel.getD j 0))) := by
  rw [compressBody, if_pos hmem, selectedOf_eq hw hL, ← hsel, map_zipIdx_eq_map_range sel 0
    fun i j => (elementAddr w d.addr j, lane w (lowBits d.vlBits (s.vreg d.src2.toNat)) i)]
  congr 1
  refine List.map_congr_left fun j hj => ?_
  subst hsel
  rw [lane_lowBits _ (lane_end_le (getD_filter_range_lt (List.mem_range.1 hj) 0))]

/-- Byte `k` of element `j` of an operand of `n` elements in memory is one of its bytes. -/
theorem exists_elementAddr_add_eq (a : Word) {n j k : Nat} (hj : j < n) (hk : k < w / 8) :
    ∃ i < n * (w / 8), elementAddr w a j + BitVec.ofNat 64 k = a + BitVec.ofNat 64 i := by
  refine ⟨j * (w / 8) + k, ?_, by rw [elementAddr, BitVec.add_assoc, BitVec.ofNat_add]⟩
  calc j * (w / 8) + k < j * (w / 8) + w / 8 := Nat.add_lt_add_left hk _
    _ = (j + 1) * (w / 8) := (Nat.succ_mul _ _).symm
    _ ≤ n * (w / 8) := Nat.mul_le_mul_right _ hj

/-- R292: VPCOMPRESS to memory. The packed elements are those of a packed value, so their stores are those of its elements. -/
theorem Runs.exec_compress_memory (hruns : Runs make (compressBody w)) (h8 : 8 ∣ w) (hw : 8 ≤ w)
    (hready : Ready s (make d)) (hmem : d.memform = true) {sel : List Nat}
    (hsel : sel = (List.range (d.vlBits / w)).filter (selects s d))
    (hstore : s.writeElements w ((List.range sel.length).map fun j =>
      (elementAddr w d.addr j, lane w (s.vreg d.src2.toNat) (sel.getD j 0))) = .ok () s₁) :
    ∃ t, exec (make d) s = .next t ∧ KeepsFlags s₁ t ∧ Frame s₁ t d [] [] [] ∧ KeepsRegisters s t [] [] [] ∧
      (∀ b : Word, (∀ j < sel.length * (w / 8), b ≠ d.addr + BitVec.ofNat 64 j) → t.byteAt b = s.byteAt b) ∧
      ∀ j < sel.length, s.target (elementAddr w d.addr j) (w / 8) = .memory → ∀ k < w / 8,
        t.byteAt (elementAddr w d.addr j + BitVec.ofNat 64 k) =
          lane 8 (s.vreg d.src2.toNat) (sel.getD j 0 * (w / 8) + k) := by
  have hL := hruns.vlBits_le hready
  have hlength : sel.length ≤ d.vlBits / w := hsel ▸ length_filter_range_le _ _
  refine ⟨s₁.advance d.ilen, ?_, ⟨rfl, rfl⟩, frame_advance s₁ d,
    (KeepsRegisters.of_ee_eq (StoresOf.writeElements hstore).ee).advance _, fun b hb => ?_, fun j hj ht k hk => ?_⟩
  · rw [hruns.exec_eq hready, compressBody_memory hw hL hmem hsel, hstore, Access.finish_ok]
  · refine writeElements_byteAt_of_ne hstore fun e he k hk => ?_
    obtain ⟨j, hj, rfl⟩ := List.mem_map.1 he
    obtain ⟨i, hi, haddr⟩ := exists_elementAddr_add_eq d.addr (List.mem_range.1 hj) hk
    exact haddr ▸ hb i hi
  · have hlane {j : Nat} := lane_compress_maskBits hw hL (j := j) hsel
    have hwidth : w ≤ 512 := by
      have hbits := lane_end_le (hj.trans_le hlength)
      omega
    rw [List.map_congr_left fun i hi => by rw [← hlane (List.mem_range.1 hi)]] at hstore
    have hstored := writeElements_lane h8 hL (fun i hi => (List.mem_range.1 hi).trans_le hlength) hstore
      (List.mem_range.2 hj) ht hk
    rwa [← lane_lane h8 hwidth _ j hk, hlane hj, lane_lane h8 hwidth _ _ hk] at hstored

end

/-- Settles O32: the packed elements, written where the mask of as many low ones selects. -/
theorem compressToRegister : Obligations.CompressToRegister := by
  unfold Obligations.CompressToRegister
  intro compresses
  have hcompresses {w : Nat} {make : Desc → Instr} (hruns : Runs make (compressBody w)) (hw : 8 ≤ w := by decide) :
      compresses w make := by
    intro d s hready hreg
    obtain ⟨t, hexec, ⟨hlanes, hupper⟩, hrest⟩ := hruns.exec_compress_register hw hready hreg
    exact ⟨t, hexec, hlanes, hupper, hrest⟩
  refine ⟨hcompresses ?_, hcompresses ?_, hcompresses ?_, hcompresses ?_⟩
  all_goals exact fun _ => ⟨rfl, _, rfl, fun _ => rfl⟩

/-- Settles O33: the packed elements, stored one after another. -/
theorem compressToMemory : Obligations.CompressToMemory := by
  unfold Obligations.CompressToMemory
  intro compresses
  have hcompresses {w : Nat} {make : Desc → Instr} (hruns : Runs make (compressBody w)) (h8 : 8 ∣ w := by decide)
      (hw : 8 ≤ w := by decide) : compresses w make :=
    fun _ _ _ hready hmem => hruns.exec_compress_memory h8 hw hready hmem rfl
  refine ⟨hcompresses ?_, hcompresses ?_, hcompresses ?_, hcompresses ?_⟩
  all_goals exact fun _ => ⟨rfl, _, rfl, fun _ => rfl⟩

/-! Expansion. -/

section
variable {w : Nat} {make : Desc → Instr} {body : Desc → State → Access Unit} {d : Desc} {s s₁ : State}

/-- R293: a handler that scatters elements to the selected positions: the one of rank `j` receives element `j`. -/
theorem Runs.exec_scatter {es : List (BitVec w)} (hruns : Runs make body) (hw : 8 ≤ w) (hready : Ready s (make d))
    (hread : LapicOnly s s₁)
    (hbody : body d s =
      .ok () (s₁.maskedWrite w (scatter w (s.maskBits d (d.vlBits / w)) (d.vlBits / w) es) d)) :
    ∃ t, exec (make d) s = .next t ∧
      MaskedResult s t d w (fun i => es.getD ((List.range i).countP (selects s d)) 0#w) ∧ KeepsFlags s₁ t ∧
      Frame s₁ t d [] [d.dst.toNat] [] := by
  have hL := hruns.vlBits_le hready
  have hcount : d.vlBits / w ≤ 64 := Nat.div_le_of_le_mul (by omega)
  obtain ⟨t, hexec, hresult, hrest⟩ := hruns.exec_maskedWrite hw hready hread hbody
  refine ⟨t, hexec, hresult.congr fun i hi hsel => ?_, hrest⟩
  rw [lane_scatter (by omega) es hi ((Nat.mul_div_le _ w).trans hL) ((getLsbD_maskBits s d hi hcount).trans hsel),
    rank_maskBits s d hi.le hcount]

/-- R293: VPEXPAND from a register, or from memory without a mask: the elements are those of one operand. -/
theorem Runs.exec_expand_whole {b : Packed} (hruns : Runs make (expandBody w)) (hw : 8 ≤ w) (hready : Ready s (make d))
    (hform : d.memform = false ∨ d.opmask = 0#3) (hsrc : s.srcV d.vlBits d d.src2 = .ok b s₁) :
    ∃ t, exec (make d) s = .next t ∧
      MaskedResult s t d w (fun i => lane w b ((List.range i).countP (selects s d))) ∧ KeepsFlags s₁ t ∧
      Frame s₁ t d [] [d.dst.toNat] [] := by
  have hL := hruns.vlBits_le hready
  have hwhole : (d.memform && d.opmask != 0#3) = false := by
    rcases hform with h | h <;> simp [h]
  obtain ⟨t, hexec, hresult, hrest⟩ := hruns.exec_scatter hw hready (.srcV hsrc)
    (by rw [expandBody, hwhole, if_neg Bool.false_ne_true, hsrc, Access.bind_ok])
  refine ⟨t, hexec, hresult.congr fun i hi hsel => ?_, hrest⟩
  have hrank := countP_range_lt_length_filter hi hsel
  rw [selectedOf_eq hw hL, List.getD_eq_getElem _ _ (by simpa using hrank), List.getElem_map, List.getElem_range]

/-- R293, R89: VPEXPAND from memory under a mask: as many elements are read as are selected. -/
theorem Runs.exec_expand_elements {es : List (BitVec w)} (hruns : Runs make (expandBody w)) (hw : 8 ≤ w)
    (hready : Ready s (make d)) (hmem : d.memform = true) (hmask : d.opmask ≠ 0#3)
    (hread : s.readElements w ((List.range ((List.range (d.vlBits / w)).countP (selects s d))).map
      (elementAddr w d.addr)) = .ok es s₁) :
    ∃ t, exec (make d) s = .next t ∧
      MaskedResult s t d w (fun i => es.getD ((List.range i).countP (selects s d)) 0#w) ∧ KeepsFlags s₁ t ∧
      Frame s₁ t d [] [d.dst.toNat] [] := by
  have hL := hruns.vlBits_le hready
  have hcount : (s.selectedOf w d).length = (List.range (d.vlBits / w)).countP (selects s d) := by
    rw [selectedOf_eq hw hL, List.countP_eq_length_filter]
  have helements : (d.memform && d.opmask != 0#3) = true := by simp [hmem, hmask]
  refine hruns.exec_scatter hw hready (.readElements hread) ?_
  rw [expandBody, if_pos helements, hcount, hread, Access.bind_ok]

end

/-- Settles O34: one operand, or as many elements as are selected, scattered by rank. -/
theorem expandBySelection : Obligations.ExpandBySelection := by
  unfold Obligations.ExpandBySelection
  intro expands
  have hexpands {w : Nat} {make : Desc → Instr} (hruns : Runs make (expandBody w)) (hw : 8 ≤ w := by decide) :
      expands w make :=
    ⟨fun _ _ _ _ hready hform hsrc => hruns.exec_expand_whole hw hready hform hsrc,
      fun _ _ _ _ hready hmem hmask hread => hruns.exec_expand_elements hw hready hmem hmask hread⟩
  refine ⟨hexpands ?_, hexpands ?_, hexpands ?_, hexpands ?_⟩
  all_goals exact fun _ => ⟨rfl, _, rfl, fun _ => rfl⟩

/-! The round trip. -/

/-- R172: the selection is by the opmask register that the descriptor names. -/
theorem selects_congr {s t : State} {c e : Desc} (hopmask : e.opmask = c.opmask)
    (hkreg : t.kreg c.opmask.toNat = s.kreg c.opmask.toNat) : selects t e = selects s c := by
  funext i
  rw [selects, selects, hopmask, hkreg]

/-- R292: a compression leaves a selected element at the place of its rank. -/
theorem CompressedResult.lane_rank {s t : State} {d : Desc} {w i : Nat}
    (h : CompressedResult s t d w ((List.range (d.vlBits / w)).filter (selects s d))) (hi : i < d.vlBits / w)
    (hsel : selects s d i = true) :
    lane w (t.vreg d.dst.toNat) ((List.range i).countP (selects s d)) = lane w (s.vreg d.src2.toNat) i := by
  obtain ⟨hlanes, -⟩ := h
  rw [hlanes _ (countP_range_lt hi hsel), if_pos (countP_range_lt_length_filter hi hsel),
    getD_filter_range_countP hi hsel]

/-- Settles O35: a selected element goes to the place of its rank and comes back from there. -/
theorem expandRestoresCompressed : Obligations.ExpandRestoresCompressed := by
  unfold Obligations.ExpandRestoresCompressed
  intro restores
  have hrestores {w : Nat} {compress expand : Desc → Instr} (hcompress : Runs compress (compressBody w))
      (hexpand : Runs expand (expandBody w)) (hw : 8 ≤ w := by decide) : restores w compress expand := by
    intro c e s t u hready ⟨hwf, hfeature⟩ hcreg hereg hmask hopmask hvl hsrc hz hc he i hi
    obtain ⟨t', hexec, hpacked, -, hframe⟩ := hcompress.exec_compress_register hw hready hcreg
    cases hexec.symm.trans hc
    have hready' : Ready t (expand e) := ⟨hwf, hframe.outside.features ▸ hfeature⟩
    obtain ⟨u', hexec, ⟨hspread, -⟩, -⟩ := hexpand.exec_expand_whole hw hready' (.inl hereg) (srcV_of_register hereg _ _)
    cases hexec.symm.trans he
    have hbits : e.vlBits = c.vlBits := congrArg (fun v => 128 <<< v.toNat) hvl
    have hselects : selects t e = selects s c :=
      selects_congr hopmask (hframe.registers.kreg _ c.opmask.isLt List.not_mem_nil)
    have hmaskBit : selects s c i = (s.kreg c.opmask.toNat).getLsbD i := by
      rw [selects, decide_eq_false hmask, Bool.false_or]
    rw [hbits] at hspread
    rw [hspread i hi, hselects, hz, if_pos rfl, hsrc, ← hmaskBit]
    cases hsel : selects s c i
    · rfl
    · have hplace := countP_range_lt hi hsel
      exact (lane_lowBits _ (lane_end_le hplace)).trans (hpacked.lane_rank hi hsel)
  refine ⟨hrestores ?_ ?_, hrestores ?_ ?_, hrestores ?_ ?_, hrestores ?_ ?_⟩
  all_goals exact fun _ => ⟨rfl, _, rfl, fun _ => rfl⟩

end Sys2Proof.Machine
end

section
/-! How the XOP handlers complete (spec/46_xop.md R320), and the comparisons (spec/46_xop.md R321, R322,
spec/40_primitives_flags_masking.md R157). -/

namespace Sys2Proof.Machine

/-- R113: handlers without a vector length run at 128 bits. -/
theorem RunsAs.vlBits_eq {sh : Shape} {make : Desc → Instr} {body : Desc → State → Access Unit} {d : Desc} {s : State}
    (hruns : RunsAs sh make body) (hvl : sh.vlMax = 0) (hready : Ready s (make d)) : d.vlBits = 128 := by
  obtain ⟨-, -, hle, -⟩ := malformed?_eq_none_iff.1 (hruns.malformed?_eq_none hready)
  rw [Desc.vlBits, Nat.le_zero.1 (hle.trans_eq hvl)]
  rfl

/-- R320: a handler of three sources that writes `f` of them. -/
theorem zeroingResult_of_xopTernary {w : Nat} {make : Desc → Instr} {f : Packed → Packed → Packed → Packed}
    {res : Elements w} (hruns : Runs make (xopTernary f))
    (hres : ∀ d s b, Ready s (make d) → ∀ i < d.vlBits / w,
      lane w (f (lowBits d.vlBits (s.vreg d.src1.toNat)) b (lowBits d.vlBits (s.vreg d.src3.toNat))) i = res d s b i) :
    ZeroingResult make res := fun d s _ b hready hsrc =>
  hruns.exec_writeRegZ hready (by rw [xopTernary, hsrc, Access.bind_ok]) (hres d s b hready)

/-- R320: a handler of three sources of 128 bits. -/
theorem zeroingResult_of_xopTernary_128 {w : Nat} {make : Desc → Instr} {f : Packed → Packed → Packed → Packed}
    {res : Elements w} (hruns : RunsAs .xopTernary make (xopTernary f))
    (hres : ∀ d s b, ∀ i < 128 / w,
      lane w (f (lowBits 128 (s.vreg d.src1.toNat)) b (lowBits 128 (s.vreg d.src3.toNat))) i = res d s b i) :
    ZeroingResult make res := by
  refine zeroingResult_of_xopTernary hruns.runs fun d s b hready => ?_
  rw [hruns.vlBits_eq rfl hready]
  exact hres d s b

/-! Comparisons. -/

section
variable {w : Nat}

/-- R157: the predicate table, for the order that `lt` and `le` read. -/
def xopPredicate (lt le : BitVec w → BitVec w → Bool) (p : Nat) (x y : BitVec w) : Bool :=
  match p with
  | 0 => lt x y
  | 1 => le x y
  | 2 => !le x y
  | 3 => !lt x y
  | 4 => decide (x = y)
  | 5 => !decide (x = y)
  | 6 => false
  | _ => true

theorem xopCompareS_eq (p : BitVec 3) (x y : BitVec w) :
    xopCompareS p x y = xopPredicate BitVec.slt BitVec.sle p.toNat x y := by
  rw [xopCompareS, geS_eq_not_slt, gtS_eq_not_sle]
  rfl

theorem xopCompareU_eq (p : BitVec 3) (x y : BitVec w) :
    xopCompareU p x y = xopPredicate BitVec.ult BitVec.ule p.toNat x y := by
  rw [xopCompareU, geU_eq_not_ult, gtU_eq_not_ule]
  rfl

/-- R321, R322: a comparison by the predicate in the low three bits of the immediate. -/
theorem zeroingResult_xopCompare {make : Desc → Instr} {pred : BitVec 3 → BitVec w → BitVec w → Bool}
    {lt le : BitVec w → BitVec w → Bool} (hpred : ∀ p x y, pred p x y = xopPredicate lt le p.toNat x y)
    (hruns : RunsAs .xopCompare make (xopCompare w pred)) (hw : 0 < w := by decide) :
    ZeroingResult make fun d s b i =>
      onesIf w (xopPredicate lt le (d.imm.toNat % 8) (lane w (s.vreg d.src1.toNat) i) (lane w b i) = true) := by
  intro d s s₁ b hready hsrc
  have hL := hruns.vlBits_eq rfl hready
  rw [hL] at hsrc
  refine hruns.runs.exec_writeRegZ hready (by rw [xopCompare, hsrc, Access.bind_ok, hL]) fun i hi => ?_
  rw [hL] at hi
  rw [cmpLanes, lane_map2 hw _ _ _ hi (by decide), lane_lowBits _ (lane_end_le hi), hpred, toNat_predicate]
  rfl

end

/-- Settles O38: each comparison is the table's predicate on each pair of elements. -/
theorem xopCompares : Obligations.XopCompares := by
  unfold Obligations.XopCompares
  intro cmp
  refine ⟨⟨zeroingResult_xopCompare xopCompareS_eq ?_, zeroingResult_xopCompare xopCompareS_eq ?_,
      zeroingResult_xopCompare xopCompareS_eq ?_, zeroingResult_xopCompare xopCompareS_eq ?_⟩,
    zeroingResult_xopCompare xopCompareU_eq ?_, zeroingResult_xopCompare xopCompareU_eq ?_,
    zeroingResult_xopCompare xopCompareU_eq ?_, zeroingResult_xopCompare xopCompareU_eq ?_⟩
  all_goals exact ⟨fun _ => ⟨rfl, _, rfl, fun _ => rfl⟩, fun _ => rfl⟩

end Sys2Proof.Machine
end

section
/-! The byte permutation and the conditional move of XOP (spec/46_xop.md R323, R324,
spec/40_primitives_flags_masking.md R146, R158). -/

namespace Sys2Proof.Machine

/-- A shift by one less than the width leaves copies of the sign. -/
theorem sshiftRight_pred_width {w : Nat} (x : BitVec w) :
    x.sshiftRight (w - 1) = if x.msb then BitVec.allOnes w else 0#w := by
  refine BitVec.eq_of_getLsbD_eq fun j hj => ?_
  have hbit : (x.sshiftRight (w - 1)).getLsbD j = x.msb := by
    rw [BitVec.getLsbD_sshiftRight, decide_eq_false (not_le.2 hj), Bool.not_false, Bool.true_and]
    split
    · next hlt => rw [show j = 0 by omega, Nat.add_zero, BitVec.msb_eq_getLsbD_last]
    · rfl
  rw [hbit]
  cases x.msb
  · exact BitVec.getLsbD_zero.symm
  · exact (BitVec.getLsbD_allOnes.trans (decide_eq_true hj)).symm

/-- R158: the operations, of which the last two copy the sign of the byte or its complement. -/
def permuteOp (op : Nat) (x : Byte) : Byte :=
  match op with
  | 0 => x
  | 1 => ~~~ x
  | 2 => x.reverse
  | 3 => ~~~ x.reverse
  | 4 => 0x00#8
  | 5 => 0xFF#8
  | 6 => x.sshiftRight 7
  | _ => ~~~ x.sshiftRight 7

theorem vppermOp_eq (op : BitVec 3) (x : Byte) : vppermOp op x = permuteOp op.toNat x := by
  have hsign : x.sshiftRight 7 = if x.msb then 0xFF#8 else 0x00#8 := sshiftRight_pred_width x
  have hnotSign : ~~~ x.sshiftRight 7 = if x.msb then 0x00#8 else 0xFF#8 := by
    rw [hsign]
    cases x.msb <;> rfl
  unfold permuteOp
  rw [hnotSign, hsign]
  rfl

/-- R323: bits 3:0 of a selector name the byte, bit 4 the source and bits 7:5 the operation. -/
theorem lane_vpperm (a b c : Packed) {i : Nat} (hi : i < 16) :
    lane 8 (vpperm (lowBits 128 a) b (lowBits 128 c)) i =
      permuteOp ((lane 8 c i).toNat / 32)
        (if (lane 8 c i).toNat % 32 < 16 then lane 8 b ((lane 8 c i).toNat % 16)
          else lane 8 a ((lane 8 c i).toNat % 16)) := by
  have hsource (x : Byte) : x.getLsbD 4 = true ↔ ¬ x.toNat % 32 < 16 := by
    rw [← BitVec.testBit_toNat, Nat.testBit_eq_decide_div_mod_eq, decide_eq_true_iff]
    omega
  have hop (x : Byte) : (x.extractLsb' 5 3).toNat = x.toNat / 32 := by
    rw [BitVec.extractLsb'_toNat, Nat.shiftRight_eq_div_pow]
    omega
  have hindex (x : Byte) : (x.extractLsb' 0 4).toNat = x.toNat % 16 := BitVec.extractLsb'_toNat _ _ _
  rw [vpperm, lane_packLanes (by decide) _ hi (by decide)]
  dsimp only
  rw [lane_lowBits c (by omega), vppermOp_eq, hop, hindex, lane_lowBits a (by omega)]
  simp only [hsource, ite_not]

/-- R324: each bit of the third source chooses between those of the first and the second. -/
theorem lane_cmov {L : Nat} (a b c : Packed) (hL : L ≤ 512) {i : Nat} (hi : i < L) :
    lane 1 (cmov (lowBits L a) b (lowBits L c)) i = if c.getLsbD i then lane 1 a i else lane 1 b i := by
  have hend : 1 * i + 1 ≤ L := by omega
  have hbit : lane 1 c i = BitVec.ofBool (c.getLsbD i) := by
    rw [ofBool_getLsbD, lane, Nat.one_mul]
  rw [cmov, lane_or, lane_and, lane_and, lane_not _ (hend.trans hL), lane_lowBits a hend, lane_lowBits c hend, hbit]
  cases c.getLsbD i
  · exact (congrArg₂ _ BitVec.and_zero BitVec.and_allOnes).trans BitVec.zero_or
  · exact (congrArg₂ _ BitVec.and_allOnes BitVec.and_zero).trans BitVec.or_zero

/-- Settles O39: the selected byte or bit, of sources below the operated length. -/
theorem xopPermuteAndConditionalMove : Obligations.XopPermuteAndConditionalMove := by
  have hvpperm : RunsAs .xopTernary .vpperm (xopTernary vpperm) := ⟨fun _ => ⟨rfl, _, rfl, fun _ => rfl⟩, fun _ => rfl⟩
  have hvpcmov : Runs .vpcmov (xopTernary cmov) := fun _ => ⟨rfl, _, rfl, fun _ => rfl⟩
  exact ⟨zeroingResult_of_xopTernary_128 hvpperm fun d s b i hi => lane_vpperm _ b _ hi,
    zeroingResult_of_xopTernary hvpcmov fun d s b hready i hi =>
      lane_cmov _ b _ (hvpcmov.vlBits_le hready) (hi.trans_eq (Nat.div_one _))⟩

end Sys2Proof.Machine
end

section
/-! The multiply-accumulates of XOP (spec/46_xop.md R325 to R336, spec/40_primitives_flags_masking.md R145, R182). -/

namespace Sys2Proof.Machine

/-- R145: saturation clamps to the range of the signed readings. -/
theorem satS_eq_clamp (w : Nat) (v : Int) :
    satS w v = BitVec.ofInt w (max (-(2 ^ (w - 1))) (min v (2 ^ (w - 1) - 1))) := by
  have hpos : (0 : Int) < 2 ^ (w - 1) := by positivity
  unfold satS
  split
  · next hhigh => rw [min_eq_right hhigh.le, max_eq_right (by omega)]
  · next hhigh =>
    rw [min_eq_left (not_lt.1 hhigh)]
    split
    · next hlow => rw [max_eq_left hlow.le]
    · next hlow => rw [max_eq_right (not_lt.1 hlow)]

/-- R325 to R334: a multiply-accumulate of the elements that `pick` names, which lie below 128 bits. -/
theorem zeroingResult_mac {ws wr : Nat} {make : Desc → Instr} {pick : Nat → Nat} {fin narrow : Int → BitVec wr}
    (hruns : RunsAs .xopTernary make (xopTernary (mac ws wr pick fin))) (hfin : ∀ v, fin v = narrow v)
    (hpick : ∀ i < 128 / wr, pick i < 128 / ws) (hwr : 0 < wr := by decide) :
    ZeroingResult make fun d s b i =>
      narrow ((lane ws (s.vreg d.src1.toNat) (pick i)).toInt * (lane ws b (pick i)).toInt +
        (lane wr (s.vreg d.src3.toNat) i).toInt) := by
  refine zeroingResult_of_xopTernary_128 hruns fun d s b i hi => ?_
  have h128 : wr * (128 / wr) ≤ 512 := (Nat.mul_div_le 128 wr).trans (by decide)
  rw [mac, lane_packLanes hwr _ hi h128, hfin, laneS, laneS, laneS, lane_lowBits _ (lane_end_le (hpick i hi)),
    lane_lowBits _ (lane_end_le hi)]

/-- R335, R336: both words of each pair lie below 128 bits. -/
theorem zeroingResult_mad {make : Desc → Instr} {fin narrow : Int → BitVec 32}
    (hruns : RunsAs .xopTernary make (xopTernary (mad fin))) (hfin : ∀ v, fin v = narrow v) :
    ZeroingResult make fun d s b i =>
      narrow ((lane 16 (s.vreg d.src1.toNat) (2 * i)).toInt * (lane 16 b (2 * i)).toInt +
        (lane 16 (s.vreg d.src1.toNat) (2 * i + 1)).toInt * (lane 16 b (2 * i + 1)).toInt +
        (lane 32 (s.vreg d.src3.toNat) i).toInt) := by
  refine zeroingResult_of_xopTernary_128 hruns fun d s b i hi => ?_
  rw [mad, lane_packLanes (by decide) _ hi (by decide), hfin]
  simp only [laneS]
  rw [lane_lowBits _ (by omega : 16 * (2 * i) + 16 ≤ 128), lane_lowBits _ (by omega : 16 * (2 * i + 1) + 16 ≤ 128),
    lane_lowBits _ (by omega)]

/-- Settles O40: exact products and sums of signed readings, clamped or with the upper bits dropped. -/
theorem multiplyAccumulate : Obligations.MultiplyAccumulate := by
  unfold Obligations.MultiplyAccumulate
  intro clamp macOf madOf
  have heach (w : Nat) : ∀ i < 128 / w, eachOf i < 128 / w := fun _ hi => hi
  have hodd {ws wr : Nat} (h : 128 / ws = 2 * (128 / wr)) : ∀ i < 128 / wr, oddOf i < 128 / ws := by
    intro i hi
    rw [oddOf, h]
    omega
  have heven {ws wr : Nat} (h : 128 / ws = 2 * (128 / wr)) : ∀ i < 128 / wr, evenOf i < 128 / ws := by
    intro i hi
    rw [evenOf, h]
    omega
  have hdrop {w : Nat} (v : Int) : truncS w v = BitVec.ofInt w v := rfl
  refine ⟨⟨zeroingResult_mac ?_ (satS_eq_clamp 16) (heach 16), zeroingResult_mac ?_ hdrop (heach 16),
      zeroingResult_mac ?_ (satS_eq_clamp 32) (heach 32), zeroingResult_mac ?_ hdrop (heach 32)⟩,
    ⟨zeroingResult_mac ?_ (satS_eq_clamp 32) (hodd rfl), zeroingResult_mac ?_ hdrop (hodd rfl),
      zeroingResult_mac ?_ (satS_eq_clamp 64) (hodd rfl), zeroingResult_mac ?_ hdrop (hodd rfl)⟩,
    ⟨zeroingResult_mac ?_ (satS_eq_clamp 64) (heven rfl), zeroingResult_mac ?_ hdrop (heven rfl)⟩,
    zeroingResult_mad ?_ (satS_eq_clamp 32), zeroingResult_mad ?_ hdrop⟩
  all_goals exact ⟨fun _ => ⟨rfl, _, rfl, fun _ => rfl⟩, fun _ => rfl⟩

end Sys2Proof.Machine
end

section
/-! The priority scan (spec/60_exceptions.md R362): from the highest word of the bitmap down, the highest bit of the first word
that holds one. -/

namespace Sys2Proof.Machine

/-- Word `n` of the bitmap as the scan reads it. -/
def scannedWord (masked : Bool) (ier map : Bitmap) (n : Nat) : BitVec 32 :=
  if masked then bmWord map n &&& bmWord ier n else bmWord map n

/-- Whether the scan sees vector `v` in the bitmap. -/
def scanned (masked : Bool) (ier map : Bitmap) (v : BitVec 8) : Bool :=
  (scannedWord masked ier map (v.toNat / 32)).getLsbD (v.toNat % 32)

/-- The answer is the highest of the vectors below `bound` that satisfy `p`, or none where none does. -/
def IsHighestBelow (bound : Nat) (p : BitVec 8 → Bool) : Option (BitVec 8) → Prop
  | none   => ∀ u : BitVec 8, u.toNat < bound → p u = false
  | some v => v.toNat < bound ∧ p v = true ∧ ∀ u : BitVec 8, v.toNat < u.toNat → u.toNat < bound → p u = false

section
variable {masked : Bool} {ier map : Bitmap}

theorem scanned_eq_true_iff (v : BitVec 8) :
    scanned masked ier map v = true ↔ bmTest map v = true ∧ (masked = true → bmTest ier v = true) := by
  cases masked <;> simp [scanned, scannedWord, bmTest]

/-- A word that holds a bit answers with its highest one; the others are passed over. -/
theorem scanDown_succ (n : Nat) :
    scanDown masked ier map (n + 1) =
      if scannedWord masked ier map n ≠ 0#32 then
        some (BitVec.ofNat 8 (n * 32 + msbIndex (scannedWord masked ier map n)))
      else scanDown masked ier map n := rfl

/-- A word of zeros adds no vector to those below it. -/
theorem IsHighestBelow.of_word_eq_zero {n : Nat} {answer : Option (BitVec 8)}
    (h : IsHighestBelow (32 * n) (scanned masked ier map) answer) (hzero : scannedWord masked ier map n = 0#32) :
    IsHighestBelow (32 * (n + 1)) (scanned masked ier map) answer := by
  have hword (u : BitVec 8) (hlow : 32 * n ≤ u.toNat) (hhigh : u.toNat < 32 * (n + 1)) :
      scanned masked ier map u = false := by
    rw [scanned, (by omega : u.toNat / 32 = n), hzero, BitVec.getLsbD_zero]
  cases answer with
  | none => exact fun u hu => (lt_or_ge u.toNat (32 * n)).elim (h u) fun hlow => hword u hlow hu
  | some v =>
    obtain ⟨hv, hseen, habove⟩ := h
    exact ⟨by omega, hseen, fun u hvu hu => (lt_or_ge u.toNat (32 * n)).elim (habove u hvu) fun hlow => hword u hlow hu⟩

/-- The highest bit of a word is the highest vector below the end of the word. -/
theorem isHighestBelow_of_word_ne_zero {n : Nat} (hn : n < 8) (hword : scannedWord masked ier map n ≠ 0#32) :
    IsHighestBelow (32 * (n + 1)) (scanned masked ier map)
      (some (BitVec.ofNat 8 (n * 32 + msbIndex (scannedWord masked ier map n)))) := by
  obtain ⟨hindex, hone, hzeros⟩ := msbIndex_spec hword
  have hv : (BitVec.ofNat 8 (n * 32 + msbIndex (scannedWord masked ier map n))).toNat =
      n * 32 + msbIndex (scannedWord masked ier map n) := by
    rw [BitVec.toNat_ofNat]; omega
  refine ⟨by omega, ?_, fun u hvu hu => ?_⟩
  · rw [scanned, hv, (by omega : ∀ k < 32, (n * 32 + k) / 32 = n) _ hindex,
      (by omega : ∀ k < 32, (n * 32 + k) % 32 = k) _ hindex]
    exact hone
  · rw [scanned, (by omega : u.toNat / 32 = n)]
    exact hzeros _ (by omega)

theorem isHighestBelow_scanDown {n : Nat} (hn : n ≤ 8) :
    IsHighestBelow (32 * n) (scanned masked ier map) (scanDown masked ier map n) := by
  induction n with
  | zero => exact fun u hu => absurd hu (Nat.not_lt_zero _)
  | succ n ih =>
    rw [scanDown_succ]
    split
    · next hword => exact isHighestBelow_of_word_ne_zero hn hword
    · next hzero => exact (ih (by omega)).of_word_eq_zero (not_not.1 hzero)

end

/-- Below a bound that no vector reaches, the highest vector is unique. -/
theorem IsHighestBelow.eq_some_iff {p : BitVec 8 → Bool} {answer : Option (BitVec 8)}
    (h : IsHighestBelow (32 * 8) p answer) (v : BitVec 8) :
    answer = some v ↔ p v = true ∧ ∀ u : BitVec 8, v.toNat < u.toNat → ¬ p u = true := by
  cases answer with
  | none => simp [h v v.isLt]
  | some w =>
    obtain ⟨-, hw, habove⟩ := h
    rw [Option.some.injEq]
    constructor
    · rintro rfl
      exact ⟨hw, fun u hu => by simp [habove u hu u.isLt]⟩
    · rintro ⟨hv, hnone⟩
      refine BitVec.eq_of_toNat_eq (le_antisymm (not_lt.1 fun hlt => hnone w hlt hw) (not_lt.1 fun hlt => ?_))
      simp [habove v hlt v.isLt] at hv

theorem IsHighestBelow.eq_none_iff {p : BitVec 8 → Bool} {answer : Option (BitVec 8)}
    (h : IsHighestBelow (32 * 8) p answer) : answer = none ↔ ∀ v, ¬ p v = true := by
  cases answer with
  | none => simpa using fun v => h v v.isLt
  | some w =>
    obtain ⟨-, hw, -⟩ := h
    simpa using ⟨w, hw⟩

/-- Settles O44: the scan of the eight words sees the vectors that the interrupt-enable registers let through, and answers the
highest of them. -/
theorem priorityScanFindsTheHighest : Obligations.PriorityScanFindsTheHighest := by
  intro cfg l map open_
  have hopen (v : BitVec 8) : open_ v ↔ scanned (l.ierActive cfg) l.ier map v = true := by
    simp only [open_, scanned_eq_true_iff, Lapic.ierActive, Bool.and_eq_true, and_imp]
  have hscan : IsHighestBelow (32 * 8) (scanned (l.ierActive cfg) l.ier map) (l.highestPriorityInt cfg map) :=
    isHighestBelow_scanDown le_rfl
  simp only [hopen]
  exact ⟨hscan.eq_some_iff, hscan.eq_none_iff⟩

end Sys2Proof.Machine
end

section
/-! An interrupt from its arrival to its end (spec/60_exceptions.md R363 to R367): each operation is an update of the bitmaps
followed by `service_local_apic`. -/

namespace Sys2Proof.Machine

/-! Invariant violations (R447). -/

section
variable {α : Type} {cfg : Config} {i : Invariant} {recovery : α}

theorem violation_of_recover (h : cfg.invariantPolicy = .recover) : violation cfg i recovery = .ok recovery := by
  rw [violation, h]

theorem violation_of_fault (h : cfg.invariantPolicy = .fault) : violation cfg i recovery = .error i := by
  rw [violation, h]

end

/-! The signal (R364). -/

/-- The signal after `service_local_apic`, and the calls it makes, once it is known when it asserts the signal. -/
theorem Lapic.service_signal {cfg : Config} {l : Lapic} {asserts : Prop} (h : l.signals cfg = true ↔ asserts) :
    ((l.intrPending || l.signals cfg) = true ↔ l.intrPending = true ∨ asserts) ∧
      (asserts → (if l.signals cfg then [.signalEvent] else []) = [LapicEvent.signalEvent]) ∧
      (¬ asserts → (if l.signals cfg then [LapicEvent.signalEvent] else []) = []) := by
  refine ⟨?_, fun hyes => if_pos (h.2 hyes), fun hno => if_neg fun hsignals => hno (h.1 hsignals)⟩
  rw [← h, Bool.or_eq_true]

/-! Arrival (R363). -/

/-- The vector in the bitmaps as `trigger_irq` puts it there. -/
def Lapic.withPending (v : BitVec 8) (trig : Trigger) (l : Lapic) : Lapic :=
  { l with irr := bmSet l.irr v, tmr := if trig = .level then bmSet l.tmr v else bmClear l.tmr v }

theorem Lapic.triggerIrq_of_lt {cfg : Config} {v : BitVec 8} (hv : v.toNat < 16) (trig : Trigger) (bypass : Bool)
    (l : Lapic) : l.triggerIrq cfg v trig bypass = (l.recordError 0x40#32, []) :=
  if_pos (prioClass_eq_zero.2 hv)

theorem Lapic.triggerIrq_of_pending {cfg : Config} {v : BitVec 8} (hv : 16 ≤ v.toNat) (trig : Trigger) {l : Lapic}
    (hpending : bmTest l.irr v = true) : l.triggerIrq cfg v trig false = (l, []) := by
  refine (if_neg (mt prioClass_eq_zero.1 (not_lt.2 hv))).trans (if_pos ?_)
  rw [hpending]
  rfl

theorem Lapic.triggerIrq_of_new {cfg : Config} {v : BitVec 8} (hv : 16 ≤ v.toNat) (trig : Trigger) {bypass : Bool}
    {l : Lapic} (hnew : bypass = true ∨ bmTest l.irr v = false) :
    l.triggerIrq cfg v trig bypass = (l.withPending v trig).service cfg := by
  have hnew : ¬ (!bypass && bmTest l.irr v) = true := by
    obtain rfl | hnew := hnew
    · simp
    · simp [hnew]
  refine (if_neg (mt prioClass_eq_zero.1 (not_lt.2 hv))).trans ((if_neg hnew).trans ?_)
  cases trig <;> rfl

theorem Lapic.bmTest_tmr_withPending (l : Lapic) (v : BitVec 8) (trig : Trigger) (u : BitVec 8) :
    bmTest (l.withPending v trig).tmr u = if u = v then decide (trig = .level) else bmTest l.tmr u := by
  cases trig <;> by_cases hu : u = v <;> simp [Lapic.withPending, bmTest_bmSet, bmTest_bmClear, hu]

/-- Settles O45: a vector that is neither reserved nor already pending is put into the bitmaps, and the signal follows. -/
theorem triggerIrq : Obligations.TriggerIrq := by
  intro cfg l v trig bypass
  refine ⟨fun hv => Lapic.triggerIrq_of_lt hv trig bypass l, fun hv hbypass hpending => ?_, fun hv hnew => ?_⟩
  · rw [hbypass, Lapic.triggerIrq_of_pending hv trig hpending]
  rw [Lapic.triggerIrq_of_new hv trig hnew, Lapic.service_eq]
  exact ⟨rfl, bmTest_bmSet l.irr v, l.bmTest_tmr_withPending v trig,
    Lapic.service_signal (Lapic.signals_iff cfg (l.withPending v trig))⟩

/-! Acknowledgement (R365, R367). -/

/-- R367: a class above that of the processor priority is above that of the task priority and of every vector in service that
the scan answers. -/
theorem Lapic.ppr_lt_iff (cfg : Config) (l : Lapic) (v : BitVec 8) :
    (prioClass (l.ppr cfg)).toNat < (prioClass v).toNat ↔
      l.taskPriority.toNat / 16 < v.toNat / 16 ∧
        ∀ w, l.highestPriorityInt cfg l.isr = some w → w.toNat / 16 < v.toNat / 16 := by
  unfold Lapic.ppr
  cases l.highestPriorityInt cfg l.isr with
  | none => simp [prioClass_lt]
  | some w =>
    simp only [Option.some.injEq, forall_eq', prioClass_toNat]
    split
    · omega
    · rw [prioClass_toNat]; omega

/-- Vector `v` moved from pending to in service, the signal cleared. -/
def Lapic.withAccepted (v : BitVec 8) (l : Lapic) : Lapic :=
  { l with intrPending := false, irr := bmClear l.irr v, isr := bmSet l.isr v }

theorem Lapic.acknowledgeInt_of_pending {cfg : Config} {l : Lapic} (h : l.intrPending = true) :
    l.acknowledgeInt cfg = .ok (l.accept cfg) :=
  if_pos h

theorem Lapic.acknowledgeInt_of_not_pending {cfg : Config} {l : Lapic} (h : l.intrPending = false) :
    l.acknowledgeInt cfg =
      violation cfg .acknowledgeWithoutIntr (l.spuriousVector, (l, [.invariant .acknowledgeWithoutIntr])) :=
  if_neg (by simp [h])

section
variable {cfg : Config} {l : Lapic}

theorem Lapic.accept_of_above {v : BitVec 8} (hv : l.highestPriorityInt cfg l.irr = some v)
    (habove : (prioClass (l.ppr cfg)).toNat < (prioClass v).toNat) :
    l.accept cfg = (v, ((l.withAccepted v).service cfg).1, .clearEvent :: ((l.withAccepted v).service cfg).2) := by
  have hscan : Lapic.highestPriorityInt cfg { l with intrPending := false } l.irr = some v := hv
  simp only [Lapic.accept, hscan]
  exact if_neg (not_le.2 habove)

theorem Lapic.accept_of_not_above
    (hnone : ∀ v, l.highestPriorityInt cfg l.irr = some v → ¬ (prioClass (l.ppr cfg)).toNat < (prioClass v).toNat) :
    l.accept cfg = (l.spuriousVector, { l with intrPending := false }, [.clearEvent]) := by
  cases hscan : l.highestPriorityInt cfg l.irr with
  | none =>
    have hscan : Lapic.highestPriorityInt cfg { l with intrPending := false } l.irr = none := hscan
    simp only [Lapic.accept, hscan]
  | some v =>
    have hle := not_lt.1 (hnone v hscan)
    have hscan : Lapic.highestPriorityInt cfg { l with intrPending := false } l.irr = some v := hscan
    simp only [Lapic.accept, hscan]
    exact if_pos hle

end

/-- Settles O46: with the signal, the scan's answer is compared with the processor priority. -/
theorem acknowledgeInt : Obligations.AcknowledgeInt := by
  intro cfg l
  refine ⟨fun hoff hpolicy => ?_, fun hoff hpolicy => ?_, fun hon => ?_⟩
  · rw [Lapic.acknowledgeInt_of_not_pending hoff, violation_of_recover hpolicy]
  · rw [Lapic.acknowledgeInt_of_not_pending hoff, violation_of_fault hpolicy]
  intro above
  have habove (v : BitVec 8) : above v ↔ (prioClass (l.ppr cfg)).toNat < (prioClass v).toNat :=
    (Lapic.ppr_lt_iff cfg l v).symm
  rw [Lapic.acknowledgeInt_of_pending hon]
  constructor
  · intro v hv hclass
    rw [Lapic.accept_of_above hv ((habove v).1 hclass), Lapic.service_eq]
    refine ⟨_, _, rfl, rfl, bmTest_bmClear l.irr v, bmTest_bmSet l.isr v, ?_⟩
    obtain ⟨hpending, hcalls⟩ :=
      Lapic.service_signal ((Lapic.signals_iff cfg (l.withAccepted v)).trans (and_iff_right rfl))
    exact ⟨hpending.trans (or_iff_right nofun), hcalls⟩
  · intro hnone
    rw [Lapic.accept_of_not_above fun v hv hclass => hnone v hv ((habove v).2 hclass)]

/-! End (R366). -/

/-- Vector `v` no longer in service; its trigger mode is edge again. -/
def Lapic.withEnded (v : BitVec 8) (l : Lapic) : Lapic :=
  { l with isr := bmClear l.isr v, tmr := if bmTest l.tmr v then bmClear l.tmr v else l.tmr }

theorem Lapic.endOfInterrupt_eq (cfg : Config) (v : BitVec 8) (l : Lapic) :
    l.endOfInterrupt cfg v = (((l.withEnded v).service cfg).1,
      (if bmTest l.tmr v then [.broadcastEoi v] else []) ++ ((l.withEnded v).service cfg).2) := by
  cases hlevel : bmTest l.tmr v <;> simp [Lapic.endOfInterrupt, Lapic.withEnded, LapicEff.andThen, hlevel]

theorem Lapic.receiveEoi_of_none {cfg : Config} {l : Lapic} (hnone : l.highestPriorityInt cfg l.isr = none) :
    l.receiveEoi cfg = violation cfg .eoiWithoutIsr (l, [.invariant .eoiWithoutIsr]) := by
  simp only [Lapic.receiveEoi, hnone]

theorem Lapic.receiveEoi_of_some {cfg : Config} {l : Lapic} {v : BitVec 8}
    (hv : l.highestPriorityInt cfg l.isr = some v) :
    l.receiveEoi cfg = .ok (((l.withEnded v).service cfg).1,
      (if bmTest l.tmr v then [.broadcastEoi v] else []) ++ ((l.withEnded v).service cfg).2) := by
  simp only [Lapic.receiveEoi, hv, Lapic.endOfInterrupt_eq]

/-- The bit of the vector that ended is 0, whether it was cleared or had been 0. -/
theorem Lapic.bmTest_tmr_withEnded (l : Lapic) (v u : BitVec 8) :
    bmTest (l.withEnded v).tmr u = (!decide (u = v) && bmTest l.tmr u) := by
  unfold Lapic.withEnded
  split
  · exact bmTest_bmClear _ _ _
  · next hedge =>
    by_cases hu : u = v
    · simp [hu, hedge]
    · simp [hu]

/-- Settles O47: the highest vector in service leaves the bitmaps, and the signal follows. -/
theorem receiveEoi : Obligations.ReceiveEoi := by
  intro cfg l
  refine ⟨fun hnone => ?_, fun v hv => ?_⟩
  · rw [Lapic.receiveEoi_of_none hnone]
    exact ⟨violation_of_recover, violation_of_fault⟩
  rw [Lapic.receiveEoi_of_some hv, Lapic.service_eq]
  exact ⟨_, _, rfl, rfl, bmTest_bmClear l.isr v, l.bmTest_tmr_withEnded v,
    Lapic.service_signal (Lapic.signals_iff cfg (l.withEnded v))⟩

end Sys2Proof.Machine
end

section
/-! Fixed interrupts between processors (spec/60_exceptions.md R375 to R378, R382 to R384). -/

namespace Sys2Proof.Machine

/-- A LAPIC that no call leaves: the LAPIC in focus is replaced and nothing else changes. -/
theorem State.putLapic_nil (s : State) (l : Lapic) : s.putLapic (l, []) = { s with cpu := { s.cpu with lapic := l } } := by
  simp [State.putLapic, Cpu.setLapic]

/-- R376: a fixed interrupt is delivered by `trigger_irq`. -/
theorem Lapic.deliver_fixed (cfg : Config) (vec : BitVec 8) (trig : Trigger) (l : Lapic) :
    l.deliver cfg 0#3 vec trig = l.triggerIrq cfg vec trig false := rfl

/-- The first LAPIC that satisfies a test heads the list of those that do. -/
theorem State.lapicsWith_eq_cons {s : State} {p : Nat → Lapic → Bool} {i : Nat} {l : Lapic} (hl : s.lapicAt i = some l)
    (hp : p i l = true) (hfirst : ∀ j < i, ∀ m, s.lapicAt j = some m → ¬ p j m = true) :
    ∃ rest, s.lapicsWith p = i :: rest := by
  have hmem : i ∈ s.lapicsWith p := (mem_lapicsWith s p i).2 ⟨l, hl, hp⟩
  have hsorted := sorted_lapicsWith s p
  cases hlist : s.lapicsWith p with
  | nil => rw [hlist] at hmem; cases hmem
  | cons j rest =>
    rw [hlist, List.mem_cons] at hmem
    rw [hlist, List.pairwise_cons] at hsorted
    obtain rfl | hrest := hmem
    · exact ⟨rest, rfl⟩
    · obtain ⟨m, hm, hpm⟩ := (mem_lapicsWith s p j).1 (by rw [hlist]; exact List.mem_cons_self)
      exact absurd hpm (hfirst j (hsorted.1 i hrest) m hm)

section
variable {s : State} {x2 : Bool} {dest : BitVec 32} (hone : isBroadcast s.cfg x2 dest = false)
include hone

/-- R378: the first live LAPIC with the identifier takes the message. -/
theorem State.deliverPhysical_of_cons {i : Nat} {rest : List Nat}
    (hlist : (s.lapicsWith fun _ l => l.isLive && decide (l.apicId = dest)) = i :: rest) (dm : BitVec 3) (trig : Trigger)
    (vec : BitVec 8) : s.deliverPhysical x2 dest dm trig vec = (true, s.deliver dm vec trig i) := by
  simp only [State.deliverPhysical, hone, hlist, Bool.false_eq_true, if_false]

/-- R378: where none has it, none takes the message. -/
theorem State.deliverPhysical_of_nil (hlist : (s.lapicsWith fun _ l => l.isLive && decide (l.apicId = dest)) = [])
    (dm : BitVec 3) (trig : Trigger) (vec : BitVec 8) : s.deliverPhysical x2 dest dm trig vec = (false, s) := by
  simp only [State.deliverPhysical, hone, hlist, Bool.false_eq_true, if_false]

end

section
variable {s : State} {dest lo : BitVec 32} (hfixed : lo.extractLsb' 8 3 = 0#3)
include hfixed

/-- R375: a fixed interrupt that is accepted is its route. -/
theorem State.sendIpi_of_accepted {t : State} (hroute : s.route dest lo = (true, t)) : s.sendIpi dest lo = t := by
  simp [State.sendIpi, hroute, hfixed]

/-- R384: one that no LAPIC takes is an error of the sender. -/
theorem State.sendIpi_of_not_accepted {t : State} (hroute : s.route dest lo = (false, t)) :
    s.sendIpi dest lo = t.putLapic (t.cpu.lapic.recordError 0x04#32, []) := by
  simp [State.sendIpi, hroute, hfixed]

/-- R375, R377: a destination that is a physical identifier. -/
theorem State.route_physical (hshorthand : lo.extractLsb' 18 2 = 0#2) (hlogical : lo.getLsbD 11 = false) :
    s.route dest lo = s.deliverPhysical (decide (s.cpu.lapic.mode = .x2apic)) dest 0#3
      (if lo.getLsbD 15 then .level else .edge) (lo.setWidth 8) := by
  simp only [State.route, hshorthand, hfixed, hlogical, State.busDeliver]
  rfl

/-- R375, R382: a destination that is every LAPIC but the sender. -/
theorem State.route_allButSelf (hshorthand : lo.extractLsb' 18 2 = 3#2) :
    s.route dest lo =
      (true, s.deliverAll 0#3 (lo.setWidth 8) (if lo.getLsbD 15 then .level else .edge)
        (s.lapicsWith fun i l => l.isLive && decide (some s.focus ≠ some i))) := by
  simp only [State.route, hshorthand, hfixed, State.busBroadcast]
  rfl

end

/-- Settles O48: the list of LAPICs that may take the message is headed by the first, or is empty. -/
theorem fixedInterruptReachesItsTarget : Obligations.FixedInterruptReachesItsTarget := by
  intro s dest lo hshorthand hlogical hfixed hone takes trig
  have htakes (i : Nat) (l : Lapic) (hl : s.lapicAt i = some l) :
      (l.isLive && decide (l.apicId = dest)) = true ↔ takes i := by
    simp [takes, hl, Lapic.isLive_iff]
  have hroute := State.route_physical (s := s) (dest := dest) hfixed hshorthand hlogical
  constructor
  · intro i l hl hi hfirst
    obtain ⟨rest, hlist⟩ := State.lapicsWith_eq_cons hl ((htakes i l hl).2 hi)
      fun j hj m hm hp => hfirst j hj ((htakes j m hm).1 hp)
    rw [State.sendIpi_of_accepted hfixed (hroute.trans (State.deliverPhysical_of_cons hone hlist _ _ _)), State.deliver]
    refine ⟨?_, fun j hj => ?_⟩
    · rw [lapicAt_onLapic, if_pos rfl, hl]; rfl
    · rw [lapicAt_onLapic, if_neg (Ne.symm hj)]
  · intro hnone
    have hlist : (s.lapicsWith fun _ l => l.isLive && decide (l.apicId = dest)) = [] := by
      refine List.eq_nil_iff_forall_not_mem.2 fun i hi => ?_
      obtain ⟨l, hl, hp⟩ := (mem_lapicsWith s _ i).1 hi
      exact hnone i ((htakes i l hl).1 hp)
    rw [State.sendIpi_of_not_accepted hfixed (hroute.trans (State.deliverPhysical_of_nil hone hlist _ _ _)),
      State.putLapic_nil]
    rfl

/-- Settles O49: the delivery goes to the live LAPICs other than the sender, each once. -/
theorem broadcastExcludesTheSender : Obligations.BroadcastExcludesTheSender := by
  intro s dest lo hshorthand hfixed trig
  rw [State.sendIpi_of_accepted hfixed (State.route_allButSelf hfixed hshorthand)]
  simp only [lapicAt_deliverAll _ _ _ _ (nodup_lapicsWith s _), mem_lapicsWith, Lapic.deliver_fixed]
  refine ⟨by simp, fun i l hl hi => ?_⟩
  simp only [hl, Option.some.injEq, exists_eq_left', Bool.and_eq_true, Lapic.isLive_iff, decide_eq_true_eq, ne_eq,
    Ne.symm hi, not_false_eq_true, and_true, Option.map_some]
  split
  · rfl
  · rfl

end Sys2Proof.Machine
end

section
/-! The modes of a LAPIC (spec/60_exceptions.md R436, spec/70_reset_and_hazards.md R462). -/

namespace Sys2Proof.Machine

/-- R436: the logical identifier of an x2APIC: its cluster above its bit in the cluster. -/
theorem x2apicLdr_eq (id : BitVec 32) :
    x2apicLdr id = (id &&& 0xFFFFFFF0#32) <<< 16 ||| 1#32 <<< (id.toNat % 16) := by
  rw [x2apicLdr, BitVec.toNat_and, show (0xF#32).toNat = 2 ^ 4 - 1 from rfl, Nat.and_two_pow_sub_one_eq_mod]

/-- R462: a reset keeps the timer's handle and disarms it where the timer was active. -/
theorem Lapic.resetHandle_eq (l : Lapic) :
    (if l.timerActive then l.deactivateTimer.timerHandle else l.timerHandle) =
      { l.timerHandle with armed := l.timerHandle.armed && !l.timerActive } := by
  cases hactive : l.timerActive <;> simp [Lapic.deactivateTimer]

/-- R436: a LAPIC that goes off is reset. -/
theorem Lapic.setMode_off {cfg : Config} {l : Lapic} {m : ApicMode} (hon : l.isLive = true)
    (hoff : m = .disabled ∨ m = .globallyDisabled) :
    l.setMode cfg m = (true,
      { Lapic.reset l.apicId with
          mode := m, timerHandle := { l.timerHandle with armed := l.timerHandle.armed && !l.timerActive } },
      [.clearEvent]) := by
  rw [← Lapic.resetHandle_eq]
  unfold Lapic.isLive at hon
  cases hmode : l.mode <;> rw [hmode] at hon
  case disabled | globallyDisabled => cases hon
  all_goals obtain rfl | rfl := hoff <;> simp [Lapic.setMode, hmode, Lapic.afterReset, Lapic.reset]

/-- R436: a LAPIC that is off changes to any mode but X2APIC with its registers as they are. -/
theorem Lapic.setMode_of_off {cfg : Config} {l : Lapic} {m : ApicMode} (hoff : l.isLive = false) (hne : m ≠ l.mode) :
    l.setMode cfg m = if m = .x2apic then (false, l, []) else (true, { l with mode := m }, []) := by
  unfold Lapic.isLive at hoff
  unfold Lapic.setMode
  rw [if_neg hne]
  cases hmode : l.mode <;> rw [hmode] at hoff
  case xapic | x2apic => cases hoff
  all_goals cases m <;> simp

/-- Settles O50: each row of the table. -/
theorem setMode : Obligations.SetMode := by
  intro cfg l m off
  have hoff : off l.mode ↔ l.isLive = false := by
    unfold Lapic.isLive
    cases hmode : l.mode <;> simp [off]
  refine ⟨fun hsame => if_pos hsame, ?unsupported, ?supported, ?goesOff, ?fromOff, ?x2apicToXapic, ?offToX2apic⟩
  case unsupported =>
    rintro hmode rfl hsupported
    simp [Lapic.setMode, hmode, hsupported]
  case supported =>
    rintro hmode rfl hsupported
    simp [Lapic.setMode, hmode, hsupported, x2apicLdr_eq]
  case goesOff => exact fun hon hm => Lapic.setMode_off (by simpa [hoff] using hon) hm
  case fromOff =>
    intro hmode hm hne
    rw [Lapic.setMode_of_off (hoff.1 hmode) hne, if_neg]
    rintro rfl
    simp [off] at hm
  case x2apicToXapic =>
    rintro hmode rfl
    simp [Lapic.setMode, hmode]
  case offToX2apic =>
    rintro hmode rfl
    have hne : ApicMode.x2apic ≠ l.mode := by rintro heq; simp [off, ← heq] at hmode
    rw [Lapic.setMode_of_off (hoff.1 hmode) hne, if_pos rfl]

end Sys2Proof.Machine
end

section
/-! The expiry of the timer (spec/60_exceptions.md R406). -/

namespace Sys2Proof.Machine

/-- The interrupt of an expiry, unless the timer's entry masks it. -/
def Lapic.expiryInterrupt (cfg : Config) (l : Lapic) : LapicEff :=
  if l.lvt[0].getLsbD 16 then (l, []) else l.triggerIrq cfg (l.lvt[0].setWidth 8) .edge false

/-- The interrupt leaves the timer and its entry alone. -/
theorem Lapic.expiryInterrupt_keeps (cfg : Config) (l : Lapic) :
    let m := (l.expiryInterrupt cfg).1
    m = { l with irr := m.irr, tmr := m.tmr, intrPending := m.intrPending, shadowErrorStatus := m.shadowErrorStatus } := by
  unfold Lapic.expiryInterrupt
  split
  · rfl
  · exact Lapic.triggerIrq_keeps _ _ _ _ _

theorem Lapic.periodic_of_inactive {cfg : Config} {l : Lapic} (h : l.timerActive = false) (now : Word) :
    l.periodic cfg now = (l, []) :=
  if_pos (by simp [h])

theorem Lapic.periodic_of_active {cfg : Config} {l : Lapic} (h : l.timerActive = true) (now : Word) :
    l.periodic cfg now = ((l.expiryInterrupt cfg).1.rearm now, (l.expiryInterrupt cfg).2) := by
  simp only [Lapic.periodic, h, Bool.not_true, Bool.false_eq_true, if_false, LapicEff.andThen, List.append_nil]
  rfl

/-- What becomes of the timer by its mode. -/
theorem Lapic.rearm_eq (now : Word) (l : Lapic) :
    l.rearm now =
      if l.lvt[0].getLsbD 18 then
        { l with timerActive := false, ticksInitial := 0#64, timerHandle := { l.timerHandle with armed := false } }
      else if l.lvt[0].getLsbD 17 then
        { l with
            timerCurrent := l.timerInitial, ticksInitial := now,
            timerHandle := ⟨true, now + BitVec.ofNat 64 (l.timerInitial.toNat * l.timerDivideFactor.toNat)⟩ }
      else
        { l with timerActive := false, timerCurrent := 0#32, timerHandle := { l.timerHandle with armed := false } } := by
  rw [← setWidth_mul_setWidth]
  rfl

/-- Settles O52: the interrupt, then the timer's mode, which the interrupt leaves as it was. -/
theorem timerExpiry : Obligations.TimerExpiry := by
  intro cfg l now raised m
  refine ⟨fun hinactive => Lapic.periodic_of_inactive hinactive now, fun hactive => ?_⟩
  have hperiodic : l.periodic cfg now = (raised.1.rearm now, raised.2) := Lapic.periodic_of_active hactive now
  have hm : m = raised.1.rearm now := congrArg Prod.fst hperiodic
  have hkeeps : raised.1 = { l with
      irr := raised.1.irr, tmr := raised.1.tmr, intrPending := raised.1.intrPending,
      shadowErrorStatus := raised.1.shadowErrorStatus } := Lapic.expiryInterrupt_keeps cfg l
  rw [hm, Lapic.rearm_eq, hkeeps]
  refine ⟨by rw [hperiodic], fun htsc => if_pos htsc, fun htsc hmode => ?_, fun htsc hmode => ?_⟩
  · exact (if_neg (Bool.eq_false_iff.1 htsc)).trans (if_pos hmode)
  · exact (if_neg (Bool.eq_false_iff.1 htsc)).trans (if_neg (Bool.eq_false_iff.1 hmode))

end Sys2Proof.Machine
end

section
/-! Undefined slots of the window and the error status (spec/60_exceptions.md R421, R422, R424, R429, R434). -/

namespace Sys2Proof.Machine

/-- Whether the window has no such register; `ext` says that it has the extended ones. -/
def ApicReg.isAbsent (ext : Bool) : ApicReg → Bool
  | .selfIpi | .undefined                       => true
  | .extFeature | .extControl | .seoi | .ier _ => !ext
  | _                                           => false

/-- R42, R429: the slots that hold no register of the window. -/
theorem isAbsent_apicReg (ext : Bool) (slot : BitVec 8) :
    let n := slot.toNat
    (apicReg slot).isAbsent ext = true ↔
      n < 0x02 ∨ 0x04 ≤ n ∧ n < 0x08 ∨ n = 0x0C ∨ 0x29 ≤ n ∧ n < 0x2F ∨ 0x3A ≤ n ∧ n < 0x3E ∨ n = 0x3F ∨
        0x43 ≤ n ∧ n < 0x48 ∨ 0x50 ≤ n ∨ ext = false ∧ (0x40 ≤ n ∧ n < 0x43 ∨ 0x48 ≤ n ∧ n < 0x50) := by
  revert ext slot; decide

/-- R422: such a read records an illegal address and gives 0. -/
theorem Lapic.mmioRead_of_absent {cfg : Config} {slot : BitVec 8}
    (habsent : (apicReg slot).isAbsent cfg.xapicExtSupported = true) (now : Word) (l : Lapic) :
    l.mmioRead cfg now slot = .ok l.illegalAddress := by
  unfold Lapic.mmioRead
  cases hreg : apicReg slot <;> simp only [hreg, ApicReg.isAbsent, Bool.not_eq_true', reduceCtorEq] at habsent
  case selfIpi | undefined => rfl
  case extFeature | extControl | seoi | ier => simp only [habsent, Bool.false_eq_true, if_false]

/-- R421: such a write records an illegal address. -/
theorem State.mmioWrite_of_absent {s : State} {slot : BitVec 8}
    (habsent : (apicReg slot).isAbsent s.cfg.xapicExtSupported = true) (value : BitVec 32) :
    s.mmioWrite slot value = .ok (s.putLapic s.cpu.lapic.illegalAddress.2) := by
  unfold State.mmioWrite
  cases hreg : apicReg slot <;> simp only [hreg, ApicReg.isAbsent, Bool.not_eq_true', reduceCtorEq] at habsent
  case selfIpi | undefined => rfl
  case extFeature | extControl | seoi | ier => simp only [habsent, Bool.false_eq_true, if_false]

theorem State.putLapic_illegalAddress (s : State) :
    s.putLapic s.cpu.lapic.illegalAddress.2 = { s with cpu := { s.cpu with lapic :=
      { s.cpu.lapic with shadowErrorStatus := s.cpu.lapic.shadowErrorStatus ||| 0x80#32 } } } :=
  s.putLapic_nil _

/-- Settles O43: an absent register records an illegal address; the ESR is latched by a write. -/
theorem errorStatusIsLatched : Obligations.ErrorStatusIsLatched := by
  intro s a slot v ht n l withLapic
  constructor
  · intro hslot
    have habsent := (isAbsent_apicReg s.cfg.xapicExtSupported slot).2 hslot
    rw [memRead_of_window ht (Lapic.mmioRead_of_absent habsent _ _),
      memWrite_of_window ht (State.mmioWrite_of_absent habsent _), s.putLapic_illegalAddress]
    exact ⟨congrArg (Access.ok · _) (BitVec.setWidth_zero 512 32), rfl⟩
  · rintro rfl
    exact ⟨memRead_of_plainRead ht rfl, (memWrite_of_window ht rfl).trans (by rw [State.putLapic_nil]; rfl)⟩

end Sys2Proof.Machine
end

section
/-! The MSR view of the registers (spec/60_exceptions.md R430 to R433): which registers it has, and which of them it reads and
writes as the window does. -/

namespace Sys2Proof.Machine

/-- R431: the registers that the MSR view reads as the window does. -/
def ApicReg.sharesRead : ApicReg → Bool
  | .version | .tpr | .ppr | .svr | .isr _ | .tmr _ | .irr _ | .esr | .lvt _ | .lvtTimer | .timerInitial | .timerCurrent
  | .timerDivide => true
  | _            => false

/-- R432: the registers that the MSR view writes as the window does. -/
def ApicReg.sharesWrite : ApicReg → Bool
  | .tpr | .eoi | .svr | .esr | .lvt _ | .lvtTimer | .timerInitial | .timerDivide => true
  | _                                                                            => false

/-- R432, R433: the registers that the MSR view writes. -/
def ApicReg.msrWritable (r : ApicReg) : Bool :=
  r.takesHi || r.sharesWrite || decide (r = .selfIpi)

section
variable (slot : BitVec 8)

theorem sharesRead_apicReg :
    let n := slot.toNat
    (apicReg slot).sharesRead = true ↔
      n ∈ [0x03, 0x08, 0x0A, 0x0F, 0x2F, 0x3E] ∨ 0x10 ≤ n ∧ n ≤ 0x28 ∨ 0x32 ≤ n ∧ n ≤ 0x39 := by
  revert slot; decide

theorem takesHi_apicReg : (apicReg slot).takesHi = true ↔ slot.toNat ∈ [0x02, 0x0D, 0x30] := by
  revert slot; decide

/-- The slots of the registers that the MSR view writes as the window does, whatever the value. -/
theorem sharesWrite_apicReg :
    let n := slot.toNat
    n ∈ [0x2F, 0x3E] ∨ 0x32 ≤ n ∧ n ≤ 0x38 → (apicReg slot).sharesWrite = true ∧ (apicReg slot).rejects = 0#32 := by
  revert slot; decide

theorem msrWritable_apicReg :
    let n := slot.toNat
    n ∉ [0x02, 0x08, 0x0B, 0x0D, 0x0F, 0x28, 0x2F, 0x30, 0x3E, 0x3F] → n < 0x32 ∨ 0x38 < n →
      (apicReg slot).msrWritable = false := by
  revert slot; decide

end

/-! Reads (R431). -/

section
variable {cfg : Config} {now : Word} {slot : BitVec 8} {l : Lapic}

theorem Lapic.x2apicRead_of_not_x2apic (hmode : l.mode ≠ .x2apic) : l.x2apicRead cfg now slot = .ok (none, (l, [])) :=
  if_pos hmode

/-- A register that the MSR view neither gives whole nor shares with the window is not readable in it. -/
theorem Lapic.x2apicRead_of_unreadable (hwhole : (apicReg slot).takesHi = false)
    (hshared : (apicReg slot).sharesRead = false) : l.x2apicRead cfg now slot = .ok (none, (l, [])) := by
  unfold Lapic.x2apicRead
  split
  · rfl
  · cases hreg : apicReg slot <;> simp only [hreg, ApicReg.takesHi, ApicReg.sharesRead, reduceCtorEq] at hwhole hshared
    case apr | eoi | dfr | icrHi | selfIpi | extFeature | extControl | seoi | ier | undefined => rfl

/-- A shared register gives what the window gives, widened. -/
theorem Lapic.x2apicRead_of_shared (hmode : l.mode = .x2apic) (hshared : (apicReg slot).sharesRead = true) :
    l.x2apicRead cfg now slot = (l.mmioRead cfg now slot).map fun r => (some (r.1.setWidth 64), r.2) := by
  unfold Lapic.x2apicRead
  rw [if_neg (not_not.2 hmode)]
  cases hreg : apicReg slot <;> simp only [hreg, ApicReg.sharesRead, reduceCtorEq] at hshared
  case version | tpr | ppr | svr | isr | tmr | irr | esr | lvt | lvtTimer | timerInitial | timerCurrent | timerDivide =>
    cases hread : l.mmioRead cfg now slot <;> rfl

end

/-! Writes (R432, R433). -/

section
variable {s : State} {slot : BitVec 8} {hi lo : BitVec 32}

theorem State.x2apicWrite_of_not_x2apic (hmode : s.cpu.lapic.mode ≠ .x2apic) :
    s.x2apicWrite slot hi lo = .ok (false, s) :=
  if_pos (.inl hmode)

theorem State.x2apicWrite_of_upper_half (hhi : hi ≠ 0#32) (hreg : (apicReg slot).takesHi = false) :
    s.x2apicWrite slot hi lo = .ok (false, s) :=
  if_pos (.inr (.inl ⟨hhi, hreg⟩))

theorem State.x2apicWrite_of_reserved (hlo : lo &&& (apicReg slot).rejects ≠ 0#32) :
    s.x2apicWrite slot hi lo = .ok (false, s) :=
  if_pos (.inr (.inr hlo))

theorem State.x2apicWrite_of_unwritable (hreg : (apicReg slot).msrWritable = false) :
    s.x2apicWrite slot hi lo = .ok (false, s) := by
  unfold State.x2apicWrite
  dsimp only
  split
  · rfl
  · cases hslot : apicReg slot <;>
      simp only [hslot, ApicReg.msrWritable, ApicReg.takesHi, ApicReg.sharesWrite, Bool.or_false, Bool.false_or,
        Bool.true_or, Bool.or_true, decide_eq_false_iff_not, reduceCtorEq, not_true_eq_false] at hreg
    case version | apr | ppr | dfr | isr | tmr | irr | icrHi | timerCurrent | extFeature | extControl | seoi | ier |
        undefined => rfl

/-- What the MSR view requires of a value before it looks at the register. -/
theorem State.not_rejected (hmode : s.cpu.lapic.mode = .x2apic) (hhi : hi = 0#32 ∨ (apicReg slot).takesHi = true)
    (hlo : lo &&& (apicReg slot).rejects = 0#32) :
    ¬ (s.cpu.lapic.mode ≠ .x2apic ∨ (hi ≠ 0#32 ∧ (apicReg slot).takesHi = false) ∨
      lo &&& (apicReg slot).rejects ≠ 0#32) := by
  rintro (hne | ⟨hne, hreg⟩ | hne)
  · exact hne hmode
  · obtain hhi | hhi := hhi
    · exact hne hhi
    · rw [hhi] at hreg; cases hreg
  · exact hne hlo

/-- A shared register, written with a value that is not rejected, is written as in the window. -/
theorem State.x2apicWrite_of_shared (hmode : s.cpu.lapic.mode = .x2apic) (hhi : hi = 0#32)
    (hlo : lo &&& (apicReg slot).rejects = 0#32) (hshared : (apicReg slot).sharesWrite = true) :
    s.x2apicWrite slot hi lo = msrDone (s.mmioWrite slot lo) := by
  refine (if_neg (State.not_rejected hmode (.inl hhi) hlo)).trans ?_
  unfold State.mmioWrite
  cases hreg : apicReg slot <;> simp only [hreg, ApicReg.sharesWrite, reduceCtorEq] at hshared
  case tpr | eoi | svr | esr | lvt | lvtTimer | timerInitial | timerDivide => rfl

theorem msrDone_spec (r : Except Invariant State) :
    (∀ t, r = .ok t → msrDone r = .ok (true, t)) ∧ ∀ i, r = .error i → msrDone r = .error i :=
  ⟨by rintro t rfl; rfl, by rintro i rfl; rfl⟩

/-- R432: ID. -/
theorem State.x2apicWrite_id (hmode : s.cpu.lapic.mode = .x2apic) :
    s.x2apicWrite 0x02#8 hi lo = .ok (true, s.putLapic ({ s.cpu.lapic with apicId := lo }, [])) :=
  if_neg (State.not_rejected hmode (.inr rfl) BitVec.and_zero)

/-- R432: LDR. -/
theorem State.x2apicWrite_ldr (hmode : s.cpu.lapic.mode = .x2apic) :
    s.x2apicWrite 0x0D#8 hi lo = .ok (true, s.putLapic ({ s.cpu.lapic with ldr := lo }, [])) :=
  if_neg (State.not_rejected hmode (.inr rfl) BitVec.and_zero)

/-- R432: ICR, one store of both halves and a send. -/
theorem State.x2apicWrite_icr (hmode : s.cpu.lapic.mode = .x2apic) :
    s.x2apicWrite 0x30#8 hi lo = .ok (true, s.writeIcr hi lo) :=
  if_neg (State.not_rejected hmode (.inr rfl) BitVec.and_zero)

/-- R433: SELF_IPI. -/
theorem State.x2apicWrite_selfIpi (hmode : s.cpu.lapic.mode = .x2apic) (hhi : hi = 0#32)
    (hlo : lo &&& 0xFFFFFF00#32 = 0#32) :
    s.x2apicWrite 0x3F#8 hi lo =
      .ok (true, s.putLapic (s.cpu.lapic.triggerIrq s.cfg (lo.setWidth 8) .edge false)) :=
  if_neg (State.not_rejected hmode (.inl hhi) hlo)

end

/-- The bits above the low byte are 0 when the value is below 0x100. -/
theorem and_high_eq_zero_iff (lo : BitVec 32) : lo &&& 0xFFFFFF00#32 = 0#32 ↔ lo.toNat < 0x100 := by
  have hshift : lo &&& 0xFFFFFF00#32 = (lo >>> 8) <<< 8 := by
    have hmask {j : Nat} (hj : j < 32) : (0xFFFFFF00#32).getLsbD j = !decide (j < 8) := by revert j; decide
    refine BitVec.eq_of_getLsbD_eq fun j hj => ?_
    by_cases h8 : j < 8
    · simp [hmask hj, h8]
    · simp [hmask hj, h8, hj, (by omega : 8 + (j - 8) = j)]
  have hlt := lo.isLt
  rw [hshift, ← BitVec.toNat_inj, BitVec.toNat_shiftLeft, BitVec.toNat_ushiftRight, BitVec.toNat_zero,
    Nat.shiftLeft_eq, Nat.shiftRight_eq_div_pow]
  omega

/-- Settles O53: the read, the ways a write is rejected, the writes that have an effect of their own, and those of the window. -/
theorem msrViewRejects : Obligations.MsrViewRejects := by
  intro s slot hi lo n l gives shared becomes asWindow
  have slotIs {k : Nat} (hk : n = k) : slot = BitVec.ofNat 8 k := by rw [← hk, BitVec.ofNat_toNat, BitVec.setWidth_eq]
  have hwhole : n ∉ [0x02, 0x0D, 0x30] → (apicReg slot).takesHi = false := fun hn =>
    Bool.eq_false_iff.2 fun htakes => hn ((takesHi_apicReg slot).1 htakes)
  have hwindow (hmode : l.mode = .x2apic) (hhi : hi = 0#32) (hlo : lo &&& (apicReg slot).rejects = 0#32)
      (hshared : (apicReg slot).sharesWrite = true) : asWindow lo := by
    simp only [asWindow, State.x2apicWrite_of_shared hmode hhi hlo hshared]
    exact msrDone_spec _
  refine ⟨fun hmode => ⟨Lapic.x2apicRead_of_not_x2apic hmode, State.x2apicWrite_of_not_x2apic hmode⟩,
    fun hmode => ⟨?readId, ?readLdr, ?readIcr, ?readShared, ?readAbsent⟩,
    fun hhi hn => State.x2apicWrite_of_upper_half hhi (hwhole hn), ?tprOrSelfIpi, ?eoiOrEsr, ?svr,
    fun hmode => ⟨?writeId, ?writeLdr, ?writeIcr,
      fun hhi => ⟨?writeSelfIpi, ?writeTpr, ?writeEoiOrEsr, ?writeSvr, ?writeRest⟩⟩,
    fun hn hrange => State.x2apicWrite_of_unwritable (msrWritable_apicReg slot hn hrange)⟩
  case readId | readLdr | readIcr => intro hk; obtain rfl := slotIs hk; exact if_neg (not_not.2 hmode)
  case readShared =>
    intro hn
    rw [Lapic.x2apicRead_of_shared hmode ((sharesRead_apicReg slot).2 hn)]
    exact ⟨fun v r hread => by rw [hread]; rfl, fun i hread => by rw [hread]; rfl⟩
  case readAbsent =>
    exact fun hn hshared => Lapic.x2apicRead_of_unreadable (hwhole hn)
      (Bool.eq_false_iff.2 fun hreg => hshared ((sharesRead_apicReg slot).1 hreg))
  case tprOrSelfIpi =>
    rintro (hk | hk) hlo <;> obtain rfl := slotIs hk
    all_goals exact State.x2apicWrite_of_reserved fun hzero => not_lt.2 hlo ((and_high_eq_zero_iff lo).1 hzero)
  case eoiOrEsr =>
    rintro (hk | hk) hlo <;> obtain rfl := slotIs hk
    all_goals exact State.x2apicWrite_of_reserved fun hzero => hlo (BitVec.and_allOnes.symm.trans hzero)
  case svr => intro hk hlo; obtain rfl := slotIs hk; exact State.x2apicWrite_of_reserved hlo
  case writeId => intro hk; obtain rfl := slotIs hk; exact State.x2apicWrite_id hmode
  case writeLdr => intro hk; obtain rfl := slotIs hk; exact State.x2apicWrite_ldr hmode
  case writeIcr => intro hk; obtain rfl := slotIs hk; exact State.x2apicWrite_icr hmode
  case writeSelfIpi =>
    intro hk hlo; obtain rfl := slotIs hk; exact State.x2apicWrite_selfIpi hmode hhi ((and_high_eq_zero_iff lo).2 hlo)
  case writeTpr => intro hk hlo; obtain rfl := slotIs hk; exact hwindow hmode hhi ((and_high_eq_zero_iff lo).2 hlo) rfl
  case writeEoiOrEsr =>
    rintro (hk | hk) rfl <;> obtain rfl := slotIs hk
    all_goals exact hwindow hmode hhi BitVec.zero_and rfl
  case writeSvr => intro hk hlo; obtain rfl := slotIs hk; exact hwindow hmode hhi hlo rfl
  case writeRest =>
    intro hn
    obtain ⟨hshared, hnone⟩ := sharesWrite_apicReg slot hn
    exact hwindow hmode hhi (by rw [hnone, BitVec.and_zero]) hshared

end Sys2Proof.Machine
end
